-- ==== Sys2Proof/Word.lean ====
section
/-! DEFINITION. The words of FSV: the byte of the scanned sequence, the header word, the read-failure cause.
All values are unsigned (R12). -/

namespace Sys2Proof

/-- A byte of the scanned sequence (R13, R15). -/
abbrev Byte := BitVec 8

/-- The 32-bit big-endian header word (R15, R58). -/
abbrev Hdr := BitVec 32

/-- The opaque cause of a read failure, of `CAUSE_W` bits (R10, R28). -/
abbrev Cause (causeW : Nat) := BitVec causeW

end Sys2Proof
end

