-- ==== Sys2Proof/Config.lean ====
section
/-! DEFINITION. What the spec leaves to an implementation, as the model takes it (R10). Nothing here is a free
value: no result of FSV is undefined. The constants the source fixes (R8) stand in Machine/Operands.lean. -/

namespace Sys2Proof.Config

/-- `CHUNK_MAX` on the byte-serial port (R10, R74). A transaction-level CHUNK has no bound in the model (log entry 7). -/
def portChunkMax : Nat := 1

/-- `CAUSE_W` on the byte-serial port (R10, R134). The transaction-level commands take `CAUSE_W` as an argument,
`causeW` (log entry 5). -/
abbrev portCauseW : Nat := 8

/-- `PENDING_CAP` for a given `CHUNK_MAX`: `CHUNK_MAX + 1440` is enough (R10, R117). -/
def pendingCap (chunkMax : Nat) : Nat := chunkMax + 1440

end Sys2Proof.Config
end

