-- ==== Sys2Proof/Syntax.lean ====
section
/-! DEFINITION. The instructions of FSV: one constructor per row of spec/opcode_table.json. The header word is the
block's instruction word and the header classes its opcode map (R66 to R69); the host commands are the values of
`in_kind` and the `rst` pin (R74, R123). The bits of a header that no operation reads (R65) are carried as operands,
so that no bit of an encoding is dropped (log entry 4). -/

namespace Sys2Proof

/-- One constructor per row of the opcode table.
`rest` are the bits below the first zero of the sync field; `ign` is `hdr[20:16]`, `br` `hdr[15:12]`, `sr`
`hdr[11:10]`, `pad` `hdr[9]`, `low` `hdr[8:0]` (R60). The last five rows are the host commands; a payload a command
ignores is carried as `ign`. -/
inductive Instr where
  -- NOSYNC: the first zero among the sync bits is the bit named (R67)
  | nosync31 (rest : BitVec 31)
  | nosync30 (rest : BitVec 30)
  | nosync29 (rest : BitVec 29)
  | nosync28 (rest : BitVec 28)
  | nosync27 (rest : BitVec 27)
  | nosync26 (rest : BitVec 26)
  | nosync25 (rest : BitVec 25)
  | nosync24 (rest : BitVec 24)
  | nosync23 (rest : BitVec 23)
  | nosync22 (rest : BitVec 22)
  | nosync21 (rest : BitVec 21)
  -- REJECT: sync matches, a reserved index (R68)
  | rejBr0 (ign : BitVec 5) (sr : BitVec 2) (pad : BitVec 1) (low : BitVec 9)
  | rejBr15 (ign : BitVec 5) (sr : BitVec 2) (pad : BitVec 1) (low : BitVec 9)
  | rejSr3 (ign : BitVec 5) (br : BitVec 4) (pad : BitVec 1) (low : BitVec 9)
  -- VALID: one row per legal pair of bitrate index and sample-rate index (R69)
  | hdrB01S0 (ign : BitVec 5) (pad : BitVec 1) (low : BitVec 9)
  | hdrB01S1 (ign : BitVec 5) (pad : BitVec 1) (low : BitVec 9)
  | hdrB01S2 (ign : BitVec 5) (pad : BitVec 1) (low : BitVec 9)
  | hdrB02S0 (ign : BitVec 5) (pad : BitVec 1) (low : BitVec 9)
  | hdrB02S1 (ign : BitVec 5) (pad : BitVec 1) (low : BitVec 9)
  | hdrB02S2 (ign : BitVec 5) (pad : BitVec 1) (low : BitVec 9)
  | hdrB03S0 (ign : BitVec 5) (pad : BitVec 1) (low : BitVec 9)
  | hdrB03S1 (ign : BitVec 5) (pad : BitVec 1) (low : BitVec 9)
  | hdrB03S2 (ign : BitVec 5) (pad : BitVec 1) (low : BitVec 9)
  | hdrB04S0 (ign : BitVec 5) (pad : BitVec 1) (low : BitVec 9)
  | hdrB04S1 (ign : BitVec 5) (pad : BitVec 1) (low : BitVec 9)
  | hdrB04S2 (ign : BitVec 5) (pad : BitVec 1) (low : BitVec 9)
  | hdrB05S0 (ign : BitVec 5) (pad : BitVec 1) (low : BitVec 9)
  | hdrB05S1 (ign : BitVec 5) (pad : BitVec 1) (low : BitVec 9)
  | hdrB05S2 (ign : BitVec 5) (pad : BitVec 1) (low : BitVec 9)
  | hdrB06S0 (ign : BitVec 5) (pad : BitVec 1) (low : BitVec 9)
  | hdrB06S1 (ign : BitVec 5) (pad : BitVec 1) (low : BitVec 9)
  | hdrB06S2 (ign : BitVec 5) (pad : BitVec 1) (low : BitVec 9)
  | hdrB07S0 (ign : BitVec 5) (pad : BitVec 1) (low : BitVec 9)
  | hdrB07S1 (ign : BitVec 5) (pad : BitVec 1) (low : BitVec 9)
  | hdrB07S2 (ign : BitVec 5) (pad : BitVec 1) (low : BitVec 9)
  | hdrB08S0 (ign : BitVec 5) (pad : BitVec 1) (low : BitVec 9)
  | hdrB08S1 (ign : BitVec 5) (pad : BitVec 1) (low : BitVec 9)
  | hdrB08S2 (ign : BitVec 5) (pad : BitVec 1) (low : BitVec 9)
  | hdrB09S0 (ign : BitVec 5) (pad : BitVec 1) (low : BitVec 9)
  | hdrB09S1 (ign : BitVec 5) (pad : BitVec 1) (low : BitVec 9)
  | hdrB09S2 (ign : BitVec 5) (pad : BitVec 1) (low : BitVec 9)
  | hdrB10S0 (ign : BitVec 5) (pad : BitVec 1) (low : BitVec 9)
  | hdrB10S1 (ign : BitVec 5) (pad : BitVec 1) (low : BitVec 9)
  | hdrB10S2 (ign : BitVec 5) (pad : BitVec 1) (low : BitVec 9)
  | hdrB11S0 (ign : BitVec 5) (pad : BitVec 1) (low : BitVec 9)
  | hdrB11S1 (ign : BitVec 5) (pad : BitVec 1) (low : BitVec 9)
  | hdrB11S2 (ign : BitVec 5) (pad : BitVec 1) (low : BitVec 9)
  | hdrB12S0 (ign : BitVec 5) (pad : BitVec 1) (low : BitVec 9)
  | hdrB12S1 (ign : BitVec 5) (pad : BitVec 1) (low : BitVec 9)
  | hdrB12S2 (ign : BitVec 5) (pad : BitVec 1) (low : BitVec 9)
  | hdrB13S0 (ign : BitVec 5) (pad : BitVec 1) (low : BitVec 9)
  | hdrB13S1 (ign : BitVec 5) (pad : BitVec 1) (low : BitVec 9)
  | hdrB13S2 (ign : BitVec 5) (pad : BitVec 1) (low : BitVec 9)
  | hdrB14S0 (ign : BitVec 5) (pad : BitVec 1) (low : BitVec 9)
  | hdrB14S1 (ign : BitVec 5) (pad : BitVec 1) (low : BitVec 9)
  | hdrB14S2 (ign : BitVec 5) (pad : BitVec 1) (low : BitVec 9)
  -- host commands (R74, R123)
  | data (byte : Byte)
  | eos (ign : Byte)
  | fail (cause : Byte)
  | rsvd3 (ign : Byte)
  | reset
  deriving DecidableEq, Repr

end Sys2Proof
end

