-- ==== Sys2Proof/WellFormed.lean ====
section
/-! DEFINITION. The instructions that a word decodes to. -/

namespace Sys2Proof

/-- Well-formed instructions. A header with `SR = 3` and a reserved bitrate index matches two `REJECT` rows (R68) and
decodes to `REJ_SR3` (log entry 3), so `REJ_BR0` and `REJ_BR15` stand for the words with `SR` 0 to 2. Every other
operand takes every value of its field. -/
def Instr.wf : Instr → Bool
  | .rejBr0 _ sr _ _ => sr != 3#2
  | .rejBr15 _ sr _ _ => sr != 3#2
  | .nosync31 _ => true
  | .nosync30 _ => true
  | .nosync29 _ => true
  | .nosync28 _ => true
  | .nosync27 _ => true
  | .nosync26 _ => true
  | .nosync25 _ => true
  | .nosync24 _ => true
  | .nosync23 _ => true
  | .nosync22 _ => true
  | .nosync21 _ => true
  | .rejSr3 _ _ _ _ => true
  | .hdrB01S0 _ _ _ => true
  | .hdrB01S1 _ _ _ => true
  | .hdrB01S2 _ _ _ => true
  | .hdrB02S0 _ _ _ => true
  | .hdrB02S1 _ _ _ => true
  | .hdrB02S2 _ _ _ => true
  | .hdrB03S0 _ _ _ => true
  | .hdrB03S1 _ _ _ => true
  | .hdrB03S2 _ _ _ => true
  | .hdrB04S0 _ _ _ => true
  | .hdrB04S1 _ _ _ => true
  | .hdrB04S2 _ _ _ => true
  | .hdrB05S0 _ _ _ => true
  | .hdrB05S1 _ _ _ => true
  | .hdrB05S2 _ _ _ => true
  | .hdrB06S0 _ _ _ => true
  | .hdrB06S1 _ _ _ => true
  | .hdrB06S2 _ _ _ => true
  | .hdrB07S0 _ _ _ => true
  | .hdrB07S1 _ _ _ => true
  | .hdrB07S2 _ _ _ => true
  | .hdrB08S0 _ _ _ => true
  | .hdrB08S1 _ _ _ => true
  | .hdrB08S2 _ _ _ => true
  | .hdrB09S0 _ _ _ => true
  | .hdrB09S1 _ _ _ => true
  | .hdrB09S2 _ _ _ => true
  | .hdrB10S0 _ _ _ => true
  | .hdrB10S1 _ _ _ => true
  | .hdrB10S2 _ _ _ => true
  | .hdrB11S0 _ _ _ => true
  | .hdrB11S1 _ _ _ => true
  | .hdrB11S2 _ _ _ => true
  | .hdrB12S0 _ _ _ => true
  | .hdrB12S1 _ _ _ => true
  | .hdrB12S2 _ _ _ => true
  | .hdrB13S0 _ _ _ => true
  | .hdrB13S1 _ _ _ => true
  | .hdrB13S2 _ _ _ => true
  | .hdrB14S0 _ _ _ => true
  | .hdrB14S1 _ _ _ => true
  | .hdrB14S2 _ _ _ => true
  | .data _ => true
  | .eos _ => true
  | .fail _ => true
  | .rsvd3 _ => true
  | .reset => true

end Sys2Proof
end

