-- ==== Sys2Proof/Decode.lean ====
section
/-! DEFINITION. Decoding and encoding of FSV's three encoding spaces: the 32-bit header word (R58 to R69), the
command port's beat (R74) and the `rst` pin (R134). After the decoder, the encoder written from the same tables, the
transcription of the opcode table's rows, and the host's table-numbered entry point. -/

namespace Sys2Proof

/-! ### Byte order and fields -/

/-- The header word assembled from its four bytes, the first one most significant (R42). -/
def hdrOfBytes (b0 b1 b2 b3 : Byte) : Hdr := b0 ++ b1 ++ b2 ++ b3

/-- The four bytes of a header word in the order they arrive: `hdr[31:24]` first (R42). -/
def bytesOfHdr (hdr : Hdr) : List Byte :=
  [hdr.extractLsb' 24 8, hdr.extractLsb' 16 8, hdr.extractLsb' 8 8, hdr.extractLsb' 0 8]

/-- Field `SYNC`, `hdr[31:21]` (R61). -/
def hdrSync (hdr : Hdr) : BitVec 11 := hdr.extractLsb' 21 11

/-- The ignored bits `hdr[20:16]` (R65). -/
def hdrIgn (hdr : Hdr) : BitVec 5 := hdr.extractLsb' 16 5

/-- Field `BR`, `hdr[15:12]` (R62). -/
def hdrBr (hdr : Hdr) : BitVec 4 := hdr.extractLsb' 12 4

/-- Field `SR`, `hdr[11:10]` (R63). -/
def hdrSr (hdr : Hdr) : BitVec 2 := hdr.extractLsb' 10 2

/-- Field `PAD`, `hdr[9]` (R64). -/
def hdrPad (hdr : Hdr) : BitVec 1 := hdr.extractLsb' 9 1

/-- The ignored bits `hdr[8:0]` (R65). -/
def hdrLow (hdr : Hdr) : BitVec 9 := hdr.extractLsb' 0 9

/-! ### Decoding -/

/-- What a decoder can be given: a fetched header word, a beat of the command port, a level of the `rst` pin. -/
inductive Code where
  | hdr (word : Hdr)
  | beat (kind : BitVec 2) (data : Byte)
  | rst (level : BitVec 1)
  deriving DecidableEq, Repr

/-- Why something does not decode. -/
inductive DecodeError where
  /-- Fewer than the 4 bytes of a header (R45, R99). -/
  | headerTooShort
  /-- The `rst` pin is low: no RESET, and `rst` carries no other command (R134). -/
  | rstNotAsserted
  deriving DecidableEq, Repr

/-- The row of a sample-rate index 0, 1 or 2 (R69). -/
def pickRate {α : Type} (sr : BitVec 2) (s0 s1 s2 : α) : α :=
  match sr.toNat with
  | 0 => s0
  | 1 => s1
  | _ => s2

/-- The row of a header whose sync matches (R68, R69). Where `SR = 3` meets a reserved bitrate index, two `REJECT`
rows match and the decoder answers `REJ_SR3` (DESIGN CHOICE, log entry 3; the rows have one meaning, R68). -/
def decodeSynced (ign : BitVec 5) (br : BitVec 4) (sr : BitVec 2) (pad : BitVec 1) (low : BitVec 9) : Instr :=
  if sr = 3#2 then .rejSr3 ign br pad low
  else
    match br.toNat with
    | 0 => .rejBr0 ign sr pad low
    | 1 => pickRate sr (.hdrB01S0 ign pad low) (.hdrB01S1 ign pad low) (.hdrB01S2 ign pad low)
    | 2 => pickRate sr (.hdrB02S0 ign pad low) (.hdrB02S1 ign pad low) (.hdrB02S2 ign pad low)
    | 3 => pickRate sr (.hdrB03S0 ign pad low) (.hdrB03S1 ign pad low) (.hdrB03S2 ign pad low)
    | 4 => pickRate sr (.hdrB04S0 ign pad low) (.hdrB04S1 ign pad low) (.hdrB04S2 ign pad low)
    | 5 => pickRate sr (.hdrB05S0 ign pad low) (.hdrB05S1 ign pad low) (.hdrB05S2 ign pad low)
    | 6 => pickRate sr (.hdrB06S0 ign pad low) (.hdrB06S1 ign pad low) (.hdrB06S2 ign pad low)
    | 7 => pickRate sr (.hdrB07S0 ign pad low) (.hdrB07S1 ign pad low) (.hdrB07S2 ign pad low)
    | 8 => pickRate sr (.hdrB08S0 ign pad low) (.hdrB08S1 ign pad low) (.hdrB08S2 ign pad low)
    | 9 => pickRate sr (.hdrB09S0 ign pad low) (.hdrB09S1 ign pad low) (.hdrB09S2 ign pad low)
    | 10 => pickRate sr (.hdrB10S0 ign pad low) (.hdrB10S1 ign pad low) (.hdrB10S2 ign pad low)
    | 11 => pickRate sr (.hdrB11S0 ign pad low) (.hdrB11S1 ign pad low) (.hdrB11S2 ign pad low)
    | 12 => pickRate sr (.hdrB12S0 ign pad low) (.hdrB12S1 ign pad low) (.hdrB12S2 ign pad low)
    | 13 => pickRate sr (.hdrB13S0 ign pad low) (.hdrB13S1 ign pad low) (.hdrB13S2 ign pad low)
    | 14 => pickRate sr (.hdrB14S0 ign pad low) (.hdrB14S1 ign pad low) (.hdrB14S2 ign pad low)
    | _ => .rejBr15 ign sr pad low

/-- The class of a header word, total on all 2^32 words: the first zero among the sync bits from bit 31 down decides
a `NOSYNC` row (R67); with none, the sync matches (R61). -/
def decodeHeader (hdr : Hdr) : Instr :=
  if hdr.getLsbD 31 = false then .nosync31 (hdr.extractLsb' 0 31)
  else if hdr.getLsbD 30 = false then .nosync30 (hdr.extractLsb' 0 30)
  else if hdr.getLsbD 29 = false then .nosync29 (hdr.extractLsb' 0 29)
  else if hdr.getLsbD 28 = false then .nosync28 (hdr.extractLsb' 0 28)
  else if hdr.getLsbD 27 = false then .nosync27 (hdr.extractLsb' 0 27)
  else if hdr.getLsbD 26 = false then .nosync26 (hdr.extractLsb' 0 26)
  else if hdr.getLsbD 25 = false then .nosync25 (hdr.extractLsb' 0 25)
  else if hdr.getLsbD 24 = false then .nosync24 (hdr.extractLsb' 0 24)
  else if hdr.getLsbD 23 = false then .nosync23 (hdr.extractLsb' 0 23)
  else if hdr.getLsbD 22 = false then .nosync22 (hdr.extractLsb' 0 22)
  else if hdr.getLsbD 21 = false then .nosync21 (hdr.extractLsb' 0 21)
  else decodeSynced (hdrIgn hdr) (hdrBr hdr) (hdrSr hdr) (hdrPad hdr) (hdrLow hdr)

/-- The command of a beat: every value of `in_kind` is one (R74, R136). -/
def decodeBeat (kind : BitVec 2) (data : Byte) : Instr :=
  match kind.toNat with
  | 0 => .data data
  | 1 => .eos data
  | 2 => .fail data
  | _ => .rsvd3 data

/-- The decoder over the three encoding spaces. -/
def decode : Code → Except DecodeError Instr
  | .hdr word => .ok (decodeHeader word)
  | .beat kind data => .ok (decodeBeat kind data)
  | .rst level => if level = 1#1 then .ok .reset else .error .rstNotAsserted

/-- Decoding of the bytes at the cursor: the first four make the header (R59); fewer are rejected by name. -/
def decodeBytes : List Byte → Except DecodeError Instr
  | b0 :: b1 :: b2 :: b3 :: _ => decode (.hdr (hdrOfBytes b0 b1 b2 b3))
  | _ => .error .headerTooShort

/-! ### Encoding -/

/-- A header with a matching sync, assembled from its fields, most significant first (R60). -/
def syncedWord (ign : BitVec 5) (br : BitVec 4) (sr : BitVec 2) (pad : BitVec 1) (low : BitVec 9) : Hdr :=
  0x7FF#11 ++ ign ++ br ++ sr ++ pad ++ low

/-- The code of an instruction, from the tables of R67, R68, R69 and R74. -/
def encode : Instr → Code
  | .nosync31 rest => .hdr (0x0#1 ++ rest)
  | .nosync30 rest => .hdr (0x2#2 ++ rest)
  | .nosync29 rest => .hdr (0x6#3 ++ rest)
  | .nosync28 rest => .hdr (0xe#4 ++ rest)
  | .nosync27 rest => .hdr (0x1e#5 ++ rest)
  | .nosync26 rest => .hdr (0x3e#6 ++ rest)
  | .nosync25 rest => .hdr (0x7e#7 ++ rest)
  | .nosync24 rest => .hdr (0xfe#8 ++ rest)
  | .nosync23 rest => .hdr (0x1fe#9 ++ rest)
  | .nosync22 rest => .hdr (0x3fe#10 ++ rest)
  | .nosync21 rest => .hdr (0x7fe#11 ++ rest)
  | .rejBr0 ign sr pad low => .hdr (syncedWord ign 0#4 sr pad low)
  | .rejBr15 ign sr pad low => .hdr (syncedWord ign 15#4 sr pad low)
  | .rejSr3 ign br pad low => .hdr (syncedWord ign br 3#2 pad low)
  | .hdrB01S0 ign pad low => .hdr (syncedWord ign 1#4 0#2 pad low)
  | .hdrB01S1 ign pad low => .hdr (syncedWord ign 1#4 1#2 pad low)
  | .hdrB01S2 ign pad low => .hdr (syncedWord ign 1#4 2#2 pad low)
  | .hdrB02S0 ign pad low => .hdr (syncedWord ign 2#4 0#2 pad low)
  | .hdrB02S1 ign pad low => .hdr (syncedWord ign 2#4 1#2 pad low)
  | .hdrB02S2 ign pad low => .hdr (syncedWord ign 2#4 2#2 pad low)
  | .hdrB03S0 ign pad low => .hdr (syncedWord ign 3#4 0#2 pad low)
  | .hdrB03S1 ign pad low => .hdr (syncedWord ign 3#4 1#2 pad low)
  | .hdrB03S2 ign pad low => .hdr (syncedWord ign 3#4 2#2 pad low)
  | .hdrB04S0 ign pad low => .hdr (syncedWord ign 4#4 0#2 pad low)
  | .hdrB04S1 ign pad low => .hdr (syncedWord ign 4#4 1#2 pad low)
  | .hdrB04S2 ign pad low => .hdr (syncedWord ign 4#4 2#2 pad low)
  | .hdrB05S0 ign pad low => .hdr (syncedWord ign 5#4 0#2 pad low)
  | .hdrB05S1 ign pad low => .hdr (syncedWord ign 5#4 1#2 pad low)
  | .hdrB05S2 ign pad low => .hdr (syncedWord ign 5#4 2#2 pad low)
  | .hdrB06S0 ign pad low => .hdr (syncedWord ign 6#4 0#2 pad low)
  | .hdrB06S1 ign pad low => .hdr (syncedWord ign 6#4 1#2 pad low)
  | .hdrB06S2 ign pad low => .hdr (syncedWord ign 6#4 2#2 pad low)
  | .hdrB07S0 ign pad low => .hdr (syncedWord ign 7#4 0#2 pad low)
  | .hdrB07S1 ign pad low => .hdr (syncedWord ign 7#4 1#2 pad low)
  | .hdrB07S2 ign pad low => .hdr (syncedWord ign 7#4 2#2 pad low)
  | .hdrB08S0 ign pad low => .hdr (syncedWord ign 8#4 0#2 pad low)
  | .hdrB08S1 ign pad low => .hdr (syncedWord ign 8#4 1#2 pad low)
  | .hdrB08S2 ign pad low => .hdr (syncedWord ign 8#4 2#2 pad low)
  | .hdrB09S0 ign pad low => .hdr (syncedWord ign 9#4 0#2 pad low)
  | .hdrB09S1 ign pad low => .hdr (syncedWord ign 9#4 1#2 pad low)
  | .hdrB09S2 ign pad low => .hdr (syncedWord ign 9#4 2#2 pad low)
  | .hdrB10S0 ign pad low => .hdr (syncedWord ign 10#4 0#2 pad low)
  | .hdrB10S1 ign pad low => .hdr (syncedWord ign 10#4 1#2 pad low)
  | .hdrB10S2 ign pad low => .hdr (syncedWord ign 10#4 2#2 pad low)
  | .hdrB11S0 ign pad low => .hdr (syncedWord ign 11#4 0#2 pad low)
  | .hdrB11S1 ign pad low => .hdr (syncedWord ign 11#4 1#2 pad low)
  | .hdrB11S2 ign pad low => .hdr (syncedWord ign 11#4 2#2 pad low)
  | .hdrB12S0 ign pad low => .hdr (syncedWord ign 12#4 0#2 pad low)
  | .hdrB12S1 ign pad low => .hdr (syncedWord ign 12#4 1#2 pad low)
  | .hdrB12S2 ign pad low => .hdr (syncedWord ign 12#4 2#2 pad low)
  | .hdrB13S0 ign pad low => .hdr (syncedWord ign 13#4 0#2 pad low)
  | .hdrB13S1 ign pad low => .hdr (syncedWord ign 13#4 1#2 pad low)
  | .hdrB13S2 ign pad low => .hdr (syncedWord ign 13#4 2#2 pad low)
  | .hdrB14S0 ign pad low => .hdr (syncedWord ign 14#4 0#2 pad low)
  | .hdrB14S1 ign pad low => .hdr (syncedWord ign 14#4 1#2 pad low)
  | .hdrB14S2 ign pad low => .hdr (syncedWord ign 14#4 2#2 pad low)
  | .data byte => .beat 0#2 byte
  | .eos ign => .beat 1#2 ign
  | .fail cause => .beat 2#2 cause
  | .rsvd3 ign => .beat 3#2 ign
  | .reset => .rst 1#1

/-! ### The opcode table, row by row -/

/-- What the table says a header row is (R66, R79). -/
inductive HdrKind where
  | nosync
  | reject
  | valid
  deriving DecidableEq, Repr

/-- A header row of the opcode table (R79): a word is of the row when `word &&& mask = pattern`; `base` is
`frame_len_base`, 0 in the rows the table gives none. -/
structure HdrRow where
  pattern : Hdr
  mask : Hdr
  outcome : HdrKind
  base : Nat
  deriving DecidableEq, Repr

/-- The header row of an instruction, copied from the table's numbers (not computed from the formula); none for the
host commands. -/
def Instr.hdrRow : Instr → Option HdrRow
  | .nosync31 _ => some ⟨0x00000000#32, 0x80000000#32, .nosync, 0⟩
  | .nosync30 _ => some ⟨0x80000000#32, 0xC0000000#32, .nosync, 0⟩
  | .nosync29 _ => some ⟨0xC0000000#32, 0xE0000000#32, .nosync, 0⟩
  | .nosync28 _ => some ⟨0xE0000000#32, 0xF0000000#32, .nosync, 0⟩
  | .nosync27 _ => some ⟨0xF0000000#32, 0xF8000000#32, .nosync, 0⟩
  | .nosync26 _ => some ⟨0xF8000000#32, 0xFC000000#32, .nosync, 0⟩
  | .nosync25 _ => some ⟨0xFC000000#32, 0xFE000000#32, .nosync, 0⟩
  | .nosync24 _ => some ⟨0xFE000000#32, 0xFF000000#32, .nosync, 0⟩
  | .nosync23 _ => some ⟨0xFF000000#32, 0xFF800000#32, .nosync, 0⟩
  | .nosync22 _ => some ⟨0xFF800000#32, 0xFFC00000#32, .nosync, 0⟩
  | .nosync21 _ => some ⟨0xFFC00000#32, 0xFFE00000#32, .nosync, 0⟩
  | .rejBr0 _ _ _ _ => some ⟨0xFFE00000#32, 0xFFE0F000#32, .reject, 0⟩
  | .rejBr15 _ _ _ _ => some ⟨0xFFE0F000#32, 0xFFE0F000#32, .reject, 0⟩
  | .rejSr3 _ _ _ _ => some ⟨0xFFE00C00#32, 0xFFE00C00#32, .reject, 0⟩
  | .hdrB01S0 _ _ _ => some ⟨0xFFE01000#32, 0xFFE0FC00#32, .valid, 104⟩
  | .hdrB01S1 _ _ _ => some ⟨0xFFE01400#32, 0xFFE0FC00#32, .valid, 96⟩
  | .hdrB01S2 _ _ _ => some ⟨0xFFE01800#32, 0xFFE0FC00#32, .valid, 144⟩
  | .hdrB02S0 _ _ _ => some ⟨0xFFE02000#32, 0xFFE0FC00#32, .valid, 130⟩
  | .hdrB02S1 _ _ _ => some ⟨0xFFE02400#32, 0xFFE0FC00#32, .valid, 120⟩
  | .hdrB02S2 _ _ _ => some ⟨0xFFE02800#32, 0xFFE0FC00#32, .valid, 180⟩
  | .hdrB03S0 _ _ _ => some ⟨0xFFE03000#32, 0xFFE0FC00#32, .valid, 156⟩
  | .hdrB03S1 _ _ _ => some ⟨0xFFE03400#32, 0xFFE0FC00#32, .valid, 144⟩
  | .hdrB03S2 _ _ _ => some ⟨0xFFE03800#32, 0xFFE0FC00#32, .valid, 216⟩
  | .hdrB04S0 _ _ _ => some ⟨0xFFE04000#32, 0xFFE0FC00#32, .valid, 182⟩
  | .hdrB04S1 _ _ _ => some ⟨0xFFE04400#32, 0xFFE0FC00#32, .valid, 168⟩
  | .hdrB04S2 _ _ _ => some ⟨0xFFE04800#32, 0xFFE0FC00#32, .valid, 252⟩
  | .hdrB05S0 _ _ _ => some ⟨0xFFE05000#32, 0xFFE0FC00#32, .valid, 208⟩
  | .hdrB05S1 _ _ _ => some ⟨0xFFE05400#32, 0xFFE0FC00#32, .valid, 192⟩
  | .hdrB05S2 _ _ _ => some ⟨0xFFE05800#32, 0xFFE0FC00#32, .valid, 288⟩
  | .hdrB06S0 _ _ _ => some ⟨0xFFE06000#32, 0xFFE0FC00#32, .valid, 261⟩
  | .hdrB06S1 _ _ _ => some ⟨0xFFE06400#32, 0xFFE0FC00#32, .valid, 240⟩
  | .hdrB06S2 _ _ _ => some ⟨0xFFE06800#32, 0xFFE0FC00#32, .valid, 360⟩
  | .hdrB07S0 _ _ _ => some ⟨0xFFE07000#32, 0xFFE0FC00#32, .valid, 313⟩
  | .hdrB07S1 _ _ _ => some ⟨0xFFE07400#32, 0xFFE0FC00#32, .valid, 288⟩
  | .hdrB07S2 _ _ _ => some ⟨0xFFE07800#32, 0xFFE0FC00#32, .valid, 432⟩
  | .hdrB08S0 _ _ _ => some ⟨0xFFE08000#32, 0xFFE0FC00#32, .valid, 365⟩
  | .hdrB08S1 _ _ _ => some ⟨0xFFE08400#32, 0xFFE0FC00#32, .valid, 336⟩
  | .hdrB08S2 _ _ _ => some ⟨0xFFE08800#32, 0xFFE0FC00#32, .valid, 504⟩
  | .hdrB09S0 _ _ _ => some ⟨0xFFE09000#32, 0xFFE0FC00#32, .valid, 417⟩
  | .hdrB09S1 _ _ _ => some ⟨0xFFE09400#32, 0xFFE0FC00#32, .valid, 384⟩
  | .hdrB09S2 _ _ _ => some ⟨0xFFE09800#32, 0xFFE0FC00#32, .valid, 576⟩
  | .hdrB10S0 _ _ _ => some ⟨0xFFE0A000#32, 0xFFE0FC00#32, .valid, 522⟩
  | .hdrB10S1 _ _ _ => some ⟨0xFFE0A400#32, 0xFFE0FC00#32, .valid, 480⟩
  | .hdrB10S2 _ _ _ => some ⟨0xFFE0A800#32, 0xFFE0FC00#32, .valid, 720⟩
  | .hdrB11S0 _ _ _ => some ⟨0xFFE0B000#32, 0xFFE0FC00#32, .valid, 626⟩
  | .hdrB11S1 _ _ _ => some ⟨0xFFE0B400#32, 0xFFE0FC00#32, .valid, 576⟩
  | .hdrB11S2 _ _ _ => some ⟨0xFFE0B800#32, 0xFFE0FC00#32, .valid, 864⟩
  | .hdrB12S0 _ _ _ => some ⟨0xFFE0C000#32, 0xFFE0FC00#32, .valid, 731⟩
  | .hdrB12S1 _ _ _ => some ⟨0xFFE0C400#32, 0xFFE0FC00#32, .valid, 672⟩
  | .hdrB12S2 _ _ _ => some ⟨0xFFE0C800#32, 0xFFE0FC00#32, .valid, 1008⟩
  | .hdrB13S0 _ _ _ => some ⟨0xFFE0D000#32, 0xFFE0FC00#32, .valid, 835⟩
  | .hdrB13S1 _ _ _ => some ⟨0xFFE0D400#32, 0xFFE0FC00#32, .valid, 768⟩
  | .hdrB13S2 _ _ _ => some ⟨0xFFE0D800#32, 0xFFE0FC00#32, .valid, 1152⟩
  | .hdrB14S0 _ _ _ => some ⟨0xFFE0E000#32, 0xFFE0FC00#32, .valid, 1044⟩
  | .hdrB14S1 _ _ _ => some ⟨0xFFE0E400#32, 0xFFE0FC00#32, .valid, 960⟩
  | .hdrB14S2 _ _ _ => some ⟨0xFFE0E800#32, 0xFFE0FC00#32, .valid, 1440⟩
  | .data _ => none
  | .eos _ => none
  | .fail _ => none
  | .rsvd3 _ => none
  | .reset => none

/-- The kind of a header row (R66); none for the host commands. -/
def Instr.hdrKind (i : Instr) : Option HdrKind := i.hdrRow.map HdrRow.outcome

/-! ### The host's table-numbered words -/

/-- The code of a word of the opcode table: 32 bits are a header word (`MPEG_HDR32`), 1 bit the `rst` pin (`PIN`),
2 to 8 bits the field `in_kind` with `in_data` zero (`CMD2`). A byte that holds 1 is `EOS`, since one byte cannot
tell `CMD2` from `PIN` (DESIGN CHOICE, log entry 13). Other sizes, and words with bits outside the format, are none. -/
def codeOfTableWord (nbits w : Nat) : Option Code :=
  if nbits = 32 then (if w < 2 ^ 32 then some (.hdr (BitVec.ofNat 32 w)) else none)
  else if nbits = 1 then (if w < 2 then some (.rst (BitVec.ofNat 1 w)) else none)
  else if 2 ≤ nbits ∧ nbits ≤ 8 then (if w < 4 then some (.beat (BitVec.ofNat 2 w) 0#8) else none)
  else none

/-- The instruction the decoder reads from a word of the opcode table. A header word is laid out as its four bytes,
most significant first (R42), and read back through `decodeBytes`. -/
def decodeTableWord (nbits w : Nat) : Option Instr :=
  match codeOfTableWord nbits w with
  | some (.hdr word) => (decodeBytes (bytesOfHdr word)).toOption
  | some code => (decode code).toOption
  | none => none

end Sys2Proof
end

