-- ==== Sys2Proof/Machine/State.lean ====
section
/-! DEFINITION. The architectural state of one FSV instance (R20), what the host still has to present to it, and the
reasons a step can stop. -/

namespace Sys2Proof.Machine

/-- R24. `scanning` exists only inside a CHUNK, between its append and its compact. -/
inductive Phase where
  | idle
  | scanning
  | done
  deriving DecidableEq, Repr

/-- R25: `NONE`, `OK`, `EMPTY_INPUT`, `NO_FRAMES_FOUND`, `SOURCE_READ_FAILURE`. -/
inductive Result where
  | none
  | ok
  | emptyInput
  | noFramesFound
  | sourceReadFailure
  deriving DecidableEq, Repr

/-- What the host puts on `in_kind` and `in_data` while `in_valid = 1` (R135). -/
structure Beat where
  kind : BitVec 2
  data : Byte
  deriving DecidableEq, Repr

/-- The input ports sampled at one rising edge of `clk` (R134). -/
structure PortIn where
  rst : Bool
  inValid : Bool
  inKind : BitVec 2
  inData : Byte
  deriving DecidableEq, Repr

/-- What the host presents to the machine: a sample of the port (R134), held until it is taken (R135), or a
transaction-level CHUNK of any length (R124, R125). The model's own type (log entry 2). -/
inductive Input where
  | edge (p : PortIn)
  | chunk (bytes : List Byte)
  deriving DecidableEq, Repr

end Sys2Proof.Machine

namespace Sys2Proof.Machine

/-- The state tuple of R20 with `inputs` and `presented`, which are the model's own fields and not the spec's. The width
`CAUSE_W` of the failure cause is an argument; it is 8, that of the port, where none is given (R10, log entry 5). -/
structure State (causeW : Nat := Config.portCauseW) where
  /-- R21: bytes received and not yet consumed, the oldest first. -/
  pending : List Byte
  /-- R23: the scan cursor, relative to the start of `pending`: the program counter. -/
  cursor : Nat
  /-- R22: frames accepted since RESET; unbounded in the model (log entry 6). -/
  frameCount : Nat
  /-- R24. -/
  phase : Phase
  /-- R25. -/
  result : Result
  /-- R26: at least one byte was delivered since RESET. -/
  nonEmpty : Bool
  /-- R28. -/
  failCause : Cause causeW
  /-- R27: ghost, the bytes dropped from the front of `pending` since RESET. -/
  consumed : Nat
  /-- What the host still has to present, oldest first (DESIGN CHOICE, log entry 2). -/
  inputs : List Input
  /-- The beat the host presented while `rst` was 1, so that it has not happened and must be held (R135, R170); the
  host's side of the port, not the block's (DESIGN CHOICE, log entry 27). -/
  presented : Option Beat
  deriving DecidableEq, Repr

/-- FSV has no faulting step (R153: "the machine has no faulting step at all"), so no one raises a fault and there is
no reason for one (log entry 23). -/
inductive Fault where
  deriving DecidableEq, Repr

/-- Why the model would give no meaning. -/
inductive Refusal where
  /-- Raised by an arm of `exec` whose instruction has no meaning yet; safe. No arm raises it. -/
  | notModelled (mnemonic : String)
  /-- Raised by a step, and by no instruction, where the host does not hold the beat it presented: what then happens is
  not defined, and such a trace has no reading (R170); safe (log entry 26). -/
  | beatNotHeld
  deriving DecidableEq, Repr

/-- The state right after RESET (R35, R164), with nothing left to present, for a given `CAUSE_W`. -/
def State.resetAt (causeW : Nat) : State causeW where
  pending := []
  cursor := 0
  frameCount := 0
  phase := .idle
  result := .none
  nonEmpty := false
  failCause := 0#causeW
  consumed := 0
  inputs := []
  presented := none

/-- The state right after RESET of the machine with the port. -/
def State.reset : State := State.resetAt Config.portCauseW

end Sys2Proof.Machine
end

