-- ==== Sys2Proof/Machine/Operands.lean ====
section
/-! DEFINITION. The header decoder family (R80 to R97): pure functions of the header word, the ROM tables they read,
and the big-endian reads of `pending` that assemble it. -/

namespace Sys2Proof.Machine

/-! ### Constants the source fixes (R8, R40) -/

/-- The bitrate table, kbit/s, 16 entries (R8, R82); 0 marks a reserved index. -/
def bitrateTable : Vector Nat 16 := #v[0, 32, 40, 48, 56, 64, 80, 96, 112, 128, 160, 192, 224, 256, 320, 0]

/-- The sample-rate table, Hz, 4 entries (R8, R83); 0 marks the reserved index. -/
def sampleRateTable : Vector Nat 4 := #v[44100, 48000, 32000, 0]

/-- `SLOT_COEFF` (R8). -/
def slotCoeff : Nat := 144

/-- `KILO` (R8). -/
def kilo : Nat := 1000

/-- `LOOP_FLOOR` (R8): the bytes that must be ahead of the cursor for the loop to run. -/
def loopFloor : Nat := 4

/-- `REJECT_STEP` (R8): the advance on a non-match or a rejection. -/
def rejectStep : Nat := 1

/-! ### Reads of the byte sequence (R42, R43) -/

/-- `MemRead(addr, 2)`, the sync read (R43, R45); none where `addr + 2 <= len` fails. -/
def memRead2 (bytes : List Byte) (addr : Nat) : Option (BitVec 16) :=
  match bytes.drop addr with
  | b0 :: b1 :: _ => some (b0 ++ b1)
  | _ => none

/-- `MemRead(addr, 4)`, the header read (R43, R45); none where `addr + 4 <= len` fails. -/
def memRead4 (bytes : List Byte) (addr : Nat) : Option Hdr :=
  match bytes.drop addr with
  | b0 :: b1 :: b2 :: b3 :: _ => some (hdrOfBytes b0 b1 b2 b3)
  | _ => none

/-! ### Decoder operations -/

/-- `SYNC_MATCH` (R81): byte 0 is `0xFF` and the high three bits of byte 1 are ones. -/
def syncMatch (hdr : Hdr) : Bool :=
  hdr.extractLsb' 24 8 == 0xFF#8 && (hdr.extractLsb' 16 8 &&& 0xE0#8) == 0xE0#8

/-- `BR_LOOKUP` on the index (R82); every index is in range. -/
def brLookup (br : BitVec 4) : Nat := bitrateTable[br.toNat]'(br.isLt)

/-- `SR_LOOKUP` on the index (R83); every index is in range. -/
def srLookup (sr : BitVec 2) : Nat := sampleRateTable[sr.toNat]'(sr.isLt)

/-- `PAD_EXTRACT` (R84): the number 0 or 1. -/
def padValue (pad : BitVec 1) : Nat := pad.toNat

/-- `VALIDATE` (R85): the header is rejected when a table value is 0. -/
def rejects (kbps hz : Nat) : Bool := kbps == 0 || hz == 0

/-- `FRAME_LEN` (R86): the product in full, one floor division, then the padding. -/
def frameLen (kbps hz pad : Nat) : Nat := slotCoeff * kbps * kilo / hz + pad

/-- The decoder's answer (R15). -/
inductive DecodeResult where
  | rejected
  | frameLength (len : Nat)
  deriving DecidableEq, Repr

/-- The decoder gives a length (R80). -/
def DecodeResult.accepts : DecodeResult → Bool
  | .rejected => false
  | .frameLength _ => true

/-- `DECODE` on the three fields it reads (R87, R90). -/
def decodeFields (br : BitVec 4) (sr : BitVec 2) (pad : BitVec 1) : DecodeResult :=
  if rejects (brLookup br) (srLookup sr) then .rejected
  else .frameLength (frameLen (brLookup br) (srLookup sr) (padValue pad))

/-- `DECODE` (R87): it does not test the sync and answers for every word. -/
def decodeHdr (hdr : Hdr) : DecodeResult := decodeFields (hdrBr hdr) (hdrSr hdr) (hdrPad hdr)

/-- The kind of a header word with the length of a valid one (R66, R88). -/
inductive HdrClass where
  | nosync
  | reject
  | valid (len : Nat)
  deriving DecidableEq, Repr

/-- `CLASSIFY` (R88). -/
def classify (hdr : Hdr) : HdrClass :=
  if syncMatch hdr then
    match decodeHdr hdr with
    | .rejected => .reject
    | .frameLength len => .valid len
  else .nosync

/-! ### The table form (R91, R96) -/

/-- The bases of R91, one row per bitrate index, one column per sample-rate index; 0 stands for `Rejected`. -/
def baseTable : List (List Nat) := [
  [0, 0, 0, 0],
  [104, 96, 144, 0], [130, 120, 180, 0], [156, 144, 216, 0], [182, 168, 252, 0],
  [208, 192, 288, 0], [261, 240, 360, 0], [313, 288, 432, 0], [365, 336, 504, 0],
  [417, 384, 576, 0], [522, 480, 720, 0], [626, 576, 864, 0], [731, 672, 1008, 0],
  [835, 768, 1152, 0], [1044, 960, 1440, 0],
  [0, 0, 0, 0]]

/-- The base of two indices. -/
def tableBase (br : BitVec 4) (sr : BitVec 2) : Nat := (baseTable.getD br.toNat []).getD sr.toNat 0

/-- The table form on the three fields (R96): a base and an adder for the padding. -/
def tableFields (br : BitVec 4) (sr : BitVec 2) (pad : BitVec 1) : DecodeResult :=
  if tableBase br sr = 0 then .rejected else .frameLength (tableBase br sr + padValue pad)

/-- The decoder in table form, indexed by bits of the header word (R96). -/
def tableDecode (hdr : Hdr) : DecodeResult := tableFields (hdrBr hdr) (hdrSr hdr) (hdrPad hdr)

/-! ### The decoder sub-block's ports (R80) -/

/-- The outputs of the combinational decoder (R80). -/
structure DecoderPorts where
  syncOk : BitVec 1
  brIndex : BitVec 4
  srIndex : BitVec 2
  padding : BitVec 1
  bitrateKbps : BitVec 9
  samplerateHz : BitVec 16
  accepted : BitVec 1
  frameLen : BitVec 11
  hdrValid : BitVec 1
  deriving DecidableEq, Repr

/-- The port values of a header word (R80); `frame_len` reads 0 when the header is rejected (D4). -/
def decoderPorts (hdr : Hdr) : DecoderPorts where
  syncOk := BitVec.ofBool (syncMatch hdr)
  brIndex := hdrBr hdr
  srIndex := hdrSr hdr
  padding := hdrPad hdr
  bitrateKbps := BitVec.ofNat 9 (brLookup (hdrBr hdr))
  samplerateHz := BitVec.ofNat 16 (srLookup (hdrSr hdr))
  accepted := BitVec.ofBool (decodeHdr hdr).accepts
  frameLen := match decodeHdr hdr with
    | .rejected => 0#11
    | .frameLength len => BitVec.ofNat 11 len
  hdrValid := BitVec.ofBool (syncMatch hdr && (decodeHdr hdr).accepts)

end Sys2Proof.Machine
end

