-- ==== Sys2Proof/Machine/Flags.lean ====
section
/-! DEFINITION. The status bits of FSV (R32) and what computes them. FSV has no condition codes. -/

namespace Sys2Proof.Machine

variable {causeW : Nat}

/-- `done`: `phase = DONE` (R24, R32). -/
def State.done (s : State causeW) : Bool := s.phase == .done

/-- The 3-bit code of `result` (R75, R146). -/
def Result.code : Result → BitVec 3
  | .none => 0#3
  | .ok => 1#3
  | .emptyInput => 2#3
  | .noFramesFound => 3#3
  | .sourceReadFailure => 4#3

/-- The read-only value `STATUS`: bit 3 is `done`, bits 2:0 the code of `result` (R31). -/
def State.status (s : State causeW) : BitVec 4 := BitVec.ofBool s.done ++ s.result.code

/-- `nonEmpty` after a chunk: set by the first delivered byte, never cleared by one (R26, R124, R125). -/
def nonEmptyAfter (old : Bool) (chunk : List Byte) : Bool := old || decide (0 < chunk.length)

/-- The outcome of the end-of-data marker, in the order R126 and R151 give. -/
def eosResult (nonEmpty : Bool) (frameCount : Nat) : Result :=
  if nonEmpty = false then .emptyInput
  else if frameCount = 0 then .noFramesFound
  else .ok

end Sys2Proof.Machine
end

