-- ==== Sys2Proof/Machine/Ops.lean ====
section
/-! DEFINITION. The named operations over the state: append and drop (R47, R48), the loop guard and the fetch (R99,
R100), the five scan-step effects (R101 to R105), terminal entry (R152) and the return from it (R154, R123). -/

namespace Sys2Proof.Machine

variable {causeW : Nat}

/-! ### Bytes in and out of `pending` -/

/-- Append (R47) with its flag (R26): step 1 of a CHUNK (R124). -/
def append (chunk : List Byte) (s : State causeW) : State causeW :=
  { s with pending := s.pending ++ chunk, nonEmpty := nonEmptyAfter s.nonEmpty chunk }

/-- `COMPACT` (R109): drop the scanned prefix, count it, cursor to 0. -/
def compact (s : State causeW) : State causeW :=
  { s with pending := s.pending.drop s.cursor, consumed := s.consumed + s.cursor, cursor := 0 }

/-! ### Guard and fetch -/

/-- `LOOP_GUARD` (R99): at least four bytes from the cursor on. -/
def loopGuard (s : State causeW) : Bool := decide (s.cursor + loopFloor ≤ s.pending.length)

/-- `HDR_FETCH` (R100), made only when the guard holds. -/
def hdrFetch (s : State causeW) : Option Hdr :=
  if loopGuard s then memRead4 s.pending s.cursor else none

/-! ### The effects of a scan step
Each is the whole effect on a state: where `LOOP_GUARD` fails, the outcome is `S_EXHAUST`, whatever header is asked
for (R105, R106; log entry 10). -/

/-- `S_EXHAUST` (R105): no state change. -/
def sExhaust (s : State causeW) : State causeW := s

/-- `S_SKIP` (R101). -/
def sSkip (s : State causeW) : State causeW :=
  if loopGuard s then { s with cursor := s.cursor + rejectStep } else sExhaust s

/-- `S_REJECT` (R102): the advance is one byte, as in `S_SKIP`. -/
def sReject (s : State causeW) : State causeW :=
  if loopGuard s then { s with cursor := s.cursor + rejectStep } else sExhaust s

/-- `S_ACCEPT` (R103): count the frame and jump over it. -/
def sAccept (len : Nat) (s : State causeW) : State causeW :=
  { s with frameCount := s.frameCount + 1, cursor := s.cursor + len }

/-- `S_SUSPEND` (R104): no state change. -/
def sSuspend (s : State causeW) : State causeW := s

/-- The effect of a valid header of a given length: `S_ACCEPT` when its last byte is there (R103), else `S_SUSPEND`
(R104). -/
def sValid (len : Nat) (s : State causeW) : State causeW :=
  if loopGuard s then
    if s.cursor + len ≤ s.pending.length then sAccept len s else sSuspend s
  else sExhaust s

/-! ### Terminal entry and the return from it -/

/-- The three kinds of terminal failure (R142), with what each records. -/
inductive FailKind (causeW : Nat := Config.portCauseW) where
  | emptyInput
  | noFramesFound
  | sourceReadFailure (cause : Cause causeW)
  deriving DecidableEq, Repr

/-- The end of a scan with a given outcome: the transition a success and a failure share (R152). -/
def terminate (r : Result) (s : State causeW) : State causeW :=
  { s with result := r, consumed := s.consumed + s.pending.length, pending := [], phase := .done }

/-- `raise <Kind>(info)` (R152): the result, the cause of a read failure, the discard, the phase, and nothing else. -/
def raise (kind : FailKind causeW) (s : State causeW) : State causeW :=
  match kind with
  | .emptyInput => terminate .emptyInput s
  | .noFramesFound => terminate .noFramesFound s
  | .sourceReadFailure cause => { terminate .sourceReadFailure s with failCause := cause }

/-- The one way out of `DONE` (R154): every element of the spec's state to its reset value (R35, R123). What the host
still has to present, and what it holds on the port, is not the block's state and stays. -/
def restart (s : State causeW) : State causeW := { State.resetAt causeW with inputs := s.inputs, presented := s.presented }

end Sys2Proof.Machine
end

