-- ==== Sys2Proof/Machine/Scan.lean ====
section
/-! DEFINITION. The scan-step family: the scan step as one total function (R106), the loop (R107), its trace, and the
effect a decoded header has. -/

namespace Sys2Proof.Machine

variable {causeW : Nat}

/-- The effect of a header whose sync matches, from the decoder's answer (R106). -/
def sDecoded (d : DecodeResult) (s : State causeW) : State causeW :=
  match d with
  | .rejected => sReject s
  | .frameLength len => sValid len s

/-- The five outcomes of a scan step (R15). -/
inductive StepOutcome where
  | skip
  | reject
  | accept (len : Nat)
  | suspend (len : Nat)
  | exhaust
  deriving DecidableEq, Repr

/-- `SUSPEND` and `EXHAUST` halt the loop; the others continue it (R106). -/
def StepOutcome.halts : StepOutcome → Bool
  | .skip => false
  | .reject => false
  | .accept _ => false
  | .suspend _ => true
  | .exhaust => true

/-- The outcome is `ACCEPT`: the one that counts a frame (R111). -/
def StepOutcome.isAccept : StepOutcome → Bool
  | .skip => false
  | .reject => false
  | .accept _ => true
  | .suspend _ => false
  | .exhaust => false

/-- The scan step (R106): the guard, then the sync, then the decode. -/
def scanStep (s : State causeW) : StepOutcome × State causeW :=
  match hdrFetch s with
  | none => (.exhaust, sExhaust s)
  | some hdr =>
    if syncMatch hdr then
      match decodeHdr hdr with
      | .rejected => (.reject, sReject s)
      | .frameLength len =>
        if s.cursor + len ≤ s.pending.length then (.accept len, sAccept len s) else (.suspend len, sSuspend s)
    else (.skip, sSkip s)

/-- At most `fuel` iterations of the loop, stopping at a halting outcome (R107). -/
def scanIterate : Nat → State causeW → State causeW
  | 0, s => s
  | fuel + 1, s =>
    if (scanStep s).1.halts then (scanStep s).2 else scanIterate fuel (scanStep s).2

/-- `SCAN_LOOP` (R107). Every continuing outcome moves the cursor on inside `pending` (R108), so one iteration per byte
ahead of the cursor and one to halt are enough. -/
def scanLoop (s : State causeW) : State causeW := scanIterate (s.pending.length - s.cursor + 1) s

/-- The outcomes of the loop's iterations with the logical offset each was made at, in order (R27, R110, R115). -/
def scanTraceFuel : Nat → State causeW → List (Nat × StepOutcome)
  | 0, _ => []
  | fuel + 1, s =>
    (s.consumed + s.cursor, (scanStep s).1) ::
      (if (scanStep s).1.halts then [] else scanTraceFuel fuel (scanStep s).2)

/-- The trace of `SCAN_LOOP`. -/
def scanTrace (s : State causeW) : List (Nat × StepOutcome) := scanTraceFuel (s.pending.length - s.cursor + 1) s

/-- How many frames the loop accepts from a state. -/
def acceptCount (s : State causeW) : Nat := (scanTrace s).countP (fun e => e.2.isAccept)

end Sys2Proof.Machine
end

