-- ==== Sys2Proof/Machine/Command.lean ====
section
/-! DEFINITION. The host command family (R122 to R129): the transaction-level commands as functions of the state, and
the meanings of the table's command rows. A command other than RESET acts in phase `IDLE` and is ignored in `DONE`
(R129). Inside a CHUNK, phase `SCANNING`, `in_ready` is 0 and no beat happens (R135, R137), so nothing changes
(DEDUCED, log entry 8). -/

namespace Sys2Proof.Machine

variable {causeW : Nat}

/-! ### Transaction level -/

/-- `CHUNK` in phase `IDLE` (R124): append, `SCAN_LOOP`, `COMPACT`. -/
def scanChunk (chunk : List Byte) (s : State causeW) : State causeW := compact (scanLoop (append chunk s))

/-- `CHUNK` (R124, R125, R129). -/
def chunkCommand (chunk : List Byte) (s : State causeW) : State causeW :=
  match s.phase with
  | .idle => scanChunk chunk s
  | .scanning => s
  | .done => s

/-- `EOS` in phase `IDLE` (R126): one of the two structural failures or a success. -/
def endOfData (s : State causeW) : State causeW :=
  match eosResult s.nonEmpty s.frameCount with
  | .emptyInput => raise .emptyInput s
  | .noFramesFound => raise .noFramesFound s
  | r => terminate r s

/-- `EOS` (R126, R129). -/
def eosCommand (s : State causeW) : State causeW :=
  match s.phase with
  | .idle => endOfData s
  | .scanning => s
  | .done => s

/-- `FAIL` (R128, R129). -/
def failCommand (cause : Cause causeW) (s : State causeW) : State causeW :=
  match s.phase with
  | .idle => raise (.sourceReadFailure cause) s
  | .scanning => s
  | .done => s

/-- The commands at transaction level (R122, R139). -/
inductive Command (causeW : Nat := Config.portCauseW) where
  | reset
  | chunk (bytes : List Byte)
  | eos
  | fail (cause : Cause causeW)
  | rsvd3
  deriving DecidableEq, Repr

/-- A command as one atomic step (R122, R141). -/
def Command.apply (c : Command causeW) (s : State causeW) : State causeW :=
  match c with
  | .reset => restart s
  | .chunk bytes => chunkCommand bytes s
  | .eos => eosCommand s
  | .fail cause => failCommand cause s
  | .rsvd3 => s

/-- A command sequence, in the order issued (R53). -/
def runCommands : List (Command causeW) → State causeW → State causeW
  | [], s => s
  | c :: cs, s => runCommands cs (c.apply s)

/-! ### The meanings of the command rows -/

/-- `DATA`: a CHUNK of exactly one byte (R74, R124, R136), whole: append, loop and compact. -/
def execData (byte : Byte) (s : State) : Host.Outcome State Fault Refusal := .next (chunkCommand [byte] s)

/-- `EOS`: the end-of-data marker; `in_data` is ignored (R74, R126). -/
def execEos (_ign : Byte) (s : State) : Host.Outcome State Fault Refusal := .next (eosCommand s)

/-- `FAIL`: the read-failure signal with its cause (R74, R128). -/
def execFail (cause : Byte) (s : State) : Host.Outcome State Fault Refusal := .next (failCommand cause s)

/-- `RSVD3`: accepted, no effect in any phase (R139). -/
def execRsvd3 (_ign : Byte) (s : State) : Host.Outcome State Fault Refusal := .next s

/-- `RESET` (R123), in every phase. -/
def execReset (s : State) : Host.Outcome State Fault Refusal := .next (restart s)

end Sys2Proof.Machine
end

