-- ==== Sys2Proof/Machine/NoSync.lean ====
section
/-! DEFINITION. The `NOSYNC` rows: the sync does not match and the scan step is `S_SKIP` (R67, R101). The bits below
the first zero have no effect (R65, R101). -/

namespace Sys2Proof.Machine

/-- `NOSYNC_31`: the first zero among the sync bits is bit 31 (R67); `S_SKIP` (R101). -/
def execNosync31 (_rest : BitVec 31) (s : State) : Host.Outcome State Fault Refusal := .next (sSkip s)

/-- `NOSYNC_30`: the first zero among the sync bits is bit 30 (R67); `S_SKIP` (R101). -/
def execNosync30 (_rest : BitVec 30) (s : State) : Host.Outcome State Fault Refusal := .next (sSkip s)

/-- `NOSYNC_29`: the first zero among the sync bits is bit 29 (R67); `S_SKIP` (R101). -/
def execNosync29 (_rest : BitVec 29) (s : State) : Host.Outcome State Fault Refusal := .next (sSkip s)

/-- `NOSYNC_28`: the first zero among the sync bits is bit 28 (R67); `S_SKIP` (R101). -/
def execNosync28 (_rest : BitVec 28) (s : State) : Host.Outcome State Fault Refusal := .next (sSkip s)

/-- `NOSYNC_27`: the first zero among the sync bits is bit 27 (R67); `S_SKIP` (R101). -/
def execNosync27 (_rest : BitVec 27) (s : State) : Host.Outcome State Fault Refusal := .next (sSkip s)

/-- `NOSYNC_26`: the first zero among the sync bits is bit 26 (R67); `S_SKIP` (R101). -/
def execNosync26 (_rest : BitVec 26) (s : State) : Host.Outcome State Fault Refusal := .next (sSkip s)

/-- `NOSYNC_25`: the first zero among the sync bits is bit 25 (R67); `S_SKIP` (R101). -/
def execNosync25 (_rest : BitVec 25) (s : State) : Host.Outcome State Fault Refusal := .next (sSkip s)

/-- `NOSYNC_24`: the first zero among the sync bits is bit 24 (R67); `S_SKIP` (R101). -/
def execNosync24 (_rest : BitVec 24) (s : State) : Host.Outcome State Fault Refusal := .next (sSkip s)

/-- `NOSYNC_23`: the first zero among the sync bits is bit 23 (R67); `S_SKIP` (R101). -/
def execNosync23 (_rest : BitVec 23) (s : State) : Host.Outcome State Fault Refusal := .next (sSkip s)

/-- `NOSYNC_22`: the first zero among the sync bits is bit 22 (R67); `S_SKIP` (R101). -/
def execNosync22 (_rest : BitVec 22) (s : State) : Host.Outcome State Fault Refusal := .next (sSkip s)

/-- `NOSYNC_21`: the first zero among the sync bits is bit 21 (R67); `S_SKIP` (R101). -/
def execNosync21 (_rest : BitVec 21) (s : State) : Host.Outcome State Fault Refusal := .next (sSkip s)

end Sys2Proof.Machine
end

