-- ==== Sys2Proof/Machine/Reject.lean ====
section
/-! DEFINITION. The `REJECT` rows: the sync matches and the decoder rejects; the scan step is `S_REJECT` (R68,
R102). -/

namespace Sys2Proof.Machine

/-- `REJ_BR0`: bitrate index 0 ("free" format) (R68, R85); `S_REJECT` (R102). -/
def execRejBr0 (_ign : BitVec 5) (_sr : BitVec 2) (_pad : BitVec 1) (_low : BitVec 9) (s : State) :
    Host.Outcome State Fault Refusal := .next (sReject s)

/-- `REJ_BR15`: bitrate index 15 (reserved) (R68, R85); `S_REJECT` (R102). -/
def execRejBr15 (_ign : BitVec 5) (_sr : BitVec 2) (_pad : BitVec 1) (_low : BitVec 9) (s : State) :
    Host.Outcome State Fault Refusal := .next (sReject s)

/-- `REJ_SR3`: sample-rate index 3 (reserved) (R68, R85); `S_REJECT` (R102). -/
def execRejSr3 (_ign : BitVec 5) (_br : BitVec 4) (_pad : BitVec 1) (_low : BitVec 9) (s : State) :
    Host.Outcome State Fault Refusal := .next (sReject s)

end Sys2Proof.Machine
end

