-- ==== Sys2Proof/Machine/Valid.lean ====
section
/-! DEFINITION. The `VALID` rows: the sync matches and the decoder gives a frame length; the scan step is `S_ACCEPT`
or `S_SUSPEND` (R69, R103, R104). Each row's length comes from the decoder applied to its two indices (R87), not from
a table of lengths. -/

namespace Sys2Proof.Machine

/-- `HDR_B01_S0`: 32 kbit/s at 44100 Hz (R69, R87, R103, R104). -/
def execHdrB01S0 (_ign : BitVec 5) (pad : BitVec 1) (_low : BitVec 9) (s : State) :
    Host.Outcome State Fault Refusal := .next (sDecoded (decodeFields 1#4 0#2 pad) s)

/-- `HDR_B01_S1`: 32 kbit/s at 48000 Hz (R69, R87, R103, R104). -/
def execHdrB01S1 (_ign : BitVec 5) (pad : BitVec 1) (_low : BitVec 9) (s : State) :
    Host.Outcome State Fault Refusal := .next (sDecoded (decodeFields 1#4 1#2 pad) s)

/-- `HDR_B01_S2`: 32 kbit/s at 32000 Hz (R69, R87, R103, R104). -/
def execHdrB01S2 (_ign : BitVec 5) (pad : BitVec 1) (_low : BitVec 9) (s : State) :
    Host.Outcome State Fault Refusal := .next (sDecoded (decodeFields 1#4 2#2 pad) s)

/-- `HDR_B02_S0`: 40 kbit/s at 44100 Hz (R69, R87, R103, R104). -/
def execHdrB02S0 (_ign : BitVec 5) (pad : BitVec 1) (_low : BitVec 9) (s : State) :
    Host.Outcome State Fault Refusal := .next (sDecoded (decodeFields 2#4 0#2 pad) s)

/-- `HDR_B02_S1`: 40 kbit/s at 48000 Hz (R69, R87, R103, R104). -/
def execHdrB02S1 (_ign : BitVec 5) (pad : BitVec 1) (_low : BitVec 9) (s : State) :
    Host.Outcome State Fault Refusal := .next (sDecoded (decodeFields 2#4 1#2 pad) s)

/-- `HDR_B02_S2`: 40 kbit/s at 32000 Hz (R69, R87, R103, R104). -/
def execHdrB02S2 (_ign : BitVec 5) (pad : BitVec 1) (_low : BitVec 9) (s : State) :
    Host.Outcome State Fault Refusal := .next (sDecoded (decodeFields 2#4 2#2 pad) s)

/-- `HDR_B03_S0`: 48 kbit/s at 44100 Hz (R69, R87, R103, R104). -/
def execHdrB03S0 (_ign : BitVec 5) (pad : BitVec 1) (_low : BitVec 9) (s : State) :
    Host.Outcome State Fault Refusal := .next (sDecoded (decodeFields 3#4 0#2 pad) s)

/-- `HDR_B03_S1`: 48 kbit/s at 48000 Hz (R69, R87, R103, R104). -/
def execHdrB03S1 (_ign : BitVec 5) (pad : BitVec 1) (_low : BitVec 9) (s : State) :
    Host.Outcome State Fault Refusal := .next (sDecoded (decodeFields 3#4 1#2 pad) s)

/-- `HDR_B03_S2`: 48 kbit/s at 32000 Hz (R69, R87, R103, R104). -/
def execHdrB03S2 (_ign : BitVec 5) (pad : BitVec 1) (_low : BitVec 9) (s : State) :
    Host.Outcome State Fault Refusal := .next (sDecoded (decodeFields 3#4 2#2 pad) s)

/-- `HDR_B04_S0`: 56 kbit/s at 44100 Hz (R69, R87, R103, R104). -/
def execHdrB04S0 (_ign : BitVec 5) (pad : BitVec 1) (_low : BitVec 9) (s : State) :
    Host.Outcome State Fault Refusal := .next (sDecoded (decodeFields 4#4 0#2 pad) s)

/-- `HDR_B04_S1`: 56 kbit/s at 48000 Hz (R69, R87, R103, R104). -/
def execHdrB04S1 (_ign : BitVec 5) (pad : BitVec 1) (_low : BitVec 9) (s : State) :
    Host.Outcome State Fault Refusal := .next (sDecoded (decodeFields 4#4 1#2 pad) s)

/-- `HDR_B04_S2`: 56 kbit/s at 32000 Hz (R69, R87, R103, R104). -/
def execHdrB04S2 (_ign : BitVec 5) (pad : BitVec 1) (_low : BitVec 9) (s : State) :
    Host.Outcome State Fault Refusal := .next (sDecoded (decodeFields 4#4 2#2 pad) s)

/-- `HDR_B05_S0`: 64 kbit/s at 44100 Hz (R69, R87, R103, R104). -/
def execHdrB05S0 (_ign : BitVec 5) (pad : BitVec 1) (_low : BitVec 9) (s : State) :
    Host.Outcome State Fault Refusal := .next (sDecoded (decodeFields 5#4 0#2 pad) s)

/-- `HDR_B05_S1`: 64 kbit/s at 48000 Hz (R69, R87, R103, R104). -/
def execHdrB05S1 (_ign : BitVec 5) (pad : BitVec 1) (_low : BitVec 9) (s : State) :
    Host.Outcome State Fault Refusal := .next (sDecoded (decodeFields 5#4 1#2 pad) s)

/-- `HDR_B05_S2`: 64 kbit/s at 32000 Hz (R69, R87, R103, R104). -/
def execHdrB05S2 (_ign : BitVec 5) (pad : BitVec 1) (_low : BitVec 9) (s : State) :
    Host.Outcome State Fault Refusal := .next (sDecoded (decodeFields 5#4 2#2 pad) s)

/-- `HDR_B06_S0`: 80 kbit/s at 44100 Hz (R69, R87, R103, R104). -/
def execHdrB06S0 (_ign : BitVec 5) (pad : BitVec 1) (_low : BitVec 9) (s : State) :
    Host.Outcome State Fault Refusal := .next (sDecoded (decodeFields 6#4 0#2 pad) s)

/-- `HDR_B06_S1`: 80 kbit/s at 48000 Hz (R69, R87, R103, R104). -/
def execHdrB06S1 (_ign : BitVec 5) (pad : BitVec 1) (_low : BitVec 9) (s : State) :
    Host.Outcome State Fault Refusal := .next (sDecoded (decodeFields 6#4 1#2 pad) s)

/-- `HDR_B06_S2`: 80 kbit/s at 32000 Hz (R69, R87, R103, R104). -/
def execHdrB06S2 (_ign : BitVec 5) (pad : BitVec 1) (_low : BitVec 9) (s : State) :
    Host.Outcome State Fault Refusal := .next (sDecoded (decodeFields 6#4 2#2 pad) s)

/-- `HDR_B07_S0`: 96 kbit/s at 44100 Hz (R69, R87, R103, R104). -/
def execHdrB07S0 (_ign : BitVec 5) (pad : BitVec 1) (_low : BitVec 9) (s : State) :
    Host.Outcome State Fault Refusal := .next (sDecoded (decodeFields 7#4 0#2 pad) s)

/-- `HDR_B07_S1`: 96 kbit/s at 48000 Hz (R69, R87, R103, R104). -/
def execHdrB07S1 (_ign : BitVec 5) (pad : BitVec 1) (_low : BitVec 9) (s : State) :
    Host.Outcome State Fault Refusal := .next (sDecoded (decodeFields 7#4 1#2 pad) s)

/-- `HDR_B07_S2`: 96 kbit/s at 32000 Hz (R69, R87, R103, R104). -/
def execHdrB07S2 (_ign : BitVec 5) (pad : BitVec 1) (_low : BitVec 9) (s : State) :
    Host.Outcome State Fault Refusal := .next (sDecoded (decodeFields 7#4 2#2 pad) s)

/-- `HDR_B08_S0`: 112 kbit/s at 44100 Hz (R69, R87, R103, R104). -/
def execHdrB08S0 (_ign : BitVec 5) (pad : BitVec 1) (_low : BitVec 9) (s : State) :
    Host.Outcome State Fault Refusal := .next (sDecoded (decodeFields 8#4 0#2 pad) s)

/-- `HDR_B08_S1`: 112 kbit/s at 48000 Hz (R69, R87, R103, R104). -/
def execHdrB08S1 (_ign : BitVec 5) (pad : BitVec 1) (_low : BitVec 9) (s : State) :
    Host.Outcome State Fault Refusal := .next (sDecoded (decodeFields 8#4 1#2 pad) s)

/-- `HDR_B08_S2`: 112 kbit/s at 32000 Hz (R69, R87, R103, R104). -/
def execHdrB08S2 (_ign : BitVec 5) (pad : BitVec 1) (_low : BitVec 9) (s : State) :
    Host.Outcome State Fault Refusal := .next (sDecoded (decodeFields 8#4 2#2 pad) s)

/-- `HDR_B09_S0`: 128 kbit/s at 44100 Hz (R69, R87, R103, R104). -/
def execHdrB09S0 (_ign : BitVec 5) (pad : BitVec 1) (_low : BitVec 9) (s : State) :
    Host.Outcome State Fault Refusal := .next (sDecoded (decodeFields 9#4 0#2 pad) s)

/-- `HDR_B09_S1`: 128 kbit/s at 48000 Hz (R69, R87, R103, R104). -/
def execHdrB09S1 (_ign : BitVec 5) (pad : BitVec 1) (_low : BitVec 9) (s : State) :
    Host.Outcome State Fault Refusal := .next (sDecoded (decodeFields 9#4 1#2 pad) s)

/-- `HDR_B09_S2`: 128 kbit/s at 32000 Hz (R69, R87, R103, R104). -/
def execHdrB09S2 (_ign : BitVec 5) (pad : BitVec 1) (_low : BitVec 9) (s : State) :
    Host.Outcome State Fault Refusal := .next (sDecoded (decodeFields 9#4 2#2 pad) s)

/-- `HDR_B10_S0`: 160 kbit/s at 44100 Hz (R69, R87, R103, R104). -/
def execHdrB10S0 (_ign : BitVec 5) (pad : BitVec 1) (_low : BitVec 9) (s : State) :
    Host.Outcome State Fault Refusal := .next (sDecoded (decodeFields 10#4 0#2 pad) s)

/-- `HDR_B10_S1`: 160 kbit/s at 48000 Hz (R69, R87, R103, R104). -/
def execHdrB10S1 (_ign : BitVec 5) (pad : BitVec 1) (_low : BitVec 9) (s : State) :
    Host.Outcome State Fault Refusal := .next (sDecoded (decodeFields 10#4 1#2 pad) s)

/-- `HDR_B10_S2`: 160 kbit/s at 32000 Hz (R69, R87, R103, R104). -/
def execHdrB10S2 (_ign : BitVec 5) (pad : BitVec 1) (_low : BitVec 9) (s : State) :
    Host.Outcome State Fault Refusal := .next (sDecoded (decodeFields 10#4 2#2 pad) s)

/-- `HDR_B11_S0`: 192 kbit/s at 44100 Hz (R69, R87, R103, R104). -/
def execHdrB11S0 (_ign : BitVec 5) (pad : BitVec 1) (_low : BitVec 9) (s : State) :
    Host.Outcome State Fault Refusal := .next (sDecoded (decodeFields 11#4 0#2 pad) s)

/-- `HDR_B11_S1`: 192 kbit/s at 48000 Hz (R69, R87, R103, R104). -/
def execHdrB11S1 (_ign : BitVec 5) (pad : BitVec 1) (_low : BitVec 9) (s : State) :
    Host.Outcome State Fault Refusal := .next (sDecoded (decodeFields 11#4 1#2 pad) s)

/-- `HDR_B11_S2`: 192 kbit/s at 32000 Hz (R69, R87, R103, R104). -/
def execHdrB11S2 (_ign : BitVec 5) (pad : BitVec 1) (_low : BitVec 9) (s : State) :
    Host.Outcome State Fault Refusal := .next (sDecoded (decodeFields 11#4 2#2 pad) s)

/-- `HDR_B12_S0`: 224 kbit/s at 44100 Hz (R69, R87, R103, R104). -/
def execHdrB12S0 (_ign : BitVec 5) (pad : BitVec 1) (_low : BitVec 9) (s : State) :
    Host.Outcome State Fault Refusal := .next (sDecoded (decodeFields 12#4 0#2 pad) s)

/-- `HDR_B12_S1`: 224 kbit/s at 48000 Hz (R69, R87, R103, R104). -/
def execHdrB12S1 (_ign : BitVec 5) (pad : BitVec 1) (_low : BitVec 9) (s : State) :
    Host.Outcome State Fault Refusal := .next (sDecoded (decodeFields 12#4 1#2 pad) s)

/-- `HDR_B12_S2`: 224 kbit/s at 32000 Hz (R69, R87, R103, R104). -/
def execHdrB12S2 (_ign : BitVec 5) (pad : BitVec 1) (_low : BitVec 9) (s : State) :
    Host.Outcome State Fault Refusal := .next (sDecoded (decodeFields 12#4 2#2 pad) s)

/-- `HDR_B13_S0`: 256 kbit/s at 44100 Hz (R69, R87, R103, R104). -/
def execHdrB13S0 (_ign : BitVec 5) (pad : BitVec 1) (_low : BitVec 9) (s : State) :
    Host.Outcome State Fault Refusal := .next (sDecoded (decodeFields 13#4 0#2 pad) s)

/-- `HDR_B13_S1`: 256 kbit/s at 48000 Hz (R69, R87, R103, R104). -/
def execHdrB13S1 (_ign : BitVec 5) (pad : BitVec 1) (_low : BitVec 9) (s : State) :
    Host.Outcome State Fault Refusal := .next (sDecoded (decodeFields 13#4 1#2 pad) s)

/-- `HDR_B13_S2`: 256 kbit/s at 32000 Hz (R69, R87, R103, R104). -/
def execHdrB13S2 (_ign : BitVec 5) (pad : BitVec 1) (_low : BitVec 9) (s : State) :
    Host.Outcome State Fault Refusal := .next (sDecoded (decodeFields 13#4 2#2 pad) s)

/-- `HDR_B14_S0`: 320 kbit/s at 44100 Hz (R69, R87, R103, R104). -/
def execHdrB14S0 (_ign : BitVec 5) (pad : BitVec 1) (_low : BitVec 9) (s : State) :
    Host.Outcome State Fault Refusal := .next (sDecoded (decodeFields 14#4 0#2 pad) s)

/-- `HDR_B14_S1`: 320 kbit/s at 48000 Hz (R69, R87, R103, R104). -/
def execHdrB14S1 (_ign : BitVec 5) (pad : BitVec 1) (_low : BitVec 9) (s : State) :
    Host.Outcome State Fault Refusal := .next (sDecoded (decodeFields 14#4 1#2 pad) s)

/-- `HDR_B14_S2`: 320 kbit/s at 32000 Hz (R69, R87, R103, R104). -/
def execHdrB14S2 (_ign : BitVec 5) (pad : BitVec 1) (_low : BitVec 9) (s : State) :
    Host.Outcome State Fault Refusal := .next (sDecoded (decodeFields 14#4 2#2 pad) s)

end Sys2Proof.Machine
end

