-- ==== Sys2Proof/Machine/Dispatch.lean ====
section
/-! DEFINITION. The dispatch: one arm per instruction, each one direct call of that instruction's meaning. -/

namespace Sys2Proof.Machine

def exec (i : Instr) (s : State) : Host.Outcome State Fault Refusal :=
  match i with
  -- NOSYNC rows (R67, R101)
  | .nosync31 rest => Sys2Proof.Machine.execNosync31 rest s
  | .nosync30 rest => Sys2Proof.Machine.execNosync30 rest s
  | .nosync29 rest => Sys2Proof.Machine.execNosync29 rest s
  | .nosync28 rest => Sys2Proof.Machine.execNosync28 rest s
  | .nosync27 rest => Sys2Proof.Machine.execNosync27 rest s
  | .nosync26 rest => Sys2Proof.Machine.execNosync26 rest s
  | .nosync25 rest => Sys2Proof.Machine.execNosync25 rest s
  | .nosync24 rest => Sys2Proof.Machine.execNosync24 rest s
  | .nosync23 rest => Sys2Proof.Machine.execNosync23 rest s
  | .nosync22 rest => Sys2Proof.Machine.execNosync22 rest s
  | .nosync21 rest => Sys2Proof.Machine.execNosync21 rest s
  -- REJECT rows (R68, R102)
  | .rejBr0 ign sr pad low => Sys2Proof.Machine.execRejBr0 ign sr pad low s
  | .rejBr15 ign sr pad low => Sys2Proof.Machine.execRejBr15 ign sr pad low s
  | .rejSr3 ign br pad low => Sys2Proof.Machine.execRejSr3 ign br pad low s
  -- VALID rows (R69, R103, R104)
  | .hdrB01S0 ign pad low => Sys2Proof.Machine.execHdrB01S0 ign pad low s
  | .hdrB01S1 ign pad low => Sys2Proof.Machine.execHdrB01S1 ign pad low s
  | .hdrB01S2 ign pad low => Sys2Proof.Machine.execHdrB01S2 ign pad low s
  | .hdrB02S0 ign pad low => Sys2Proof.Machine.execHdrB02S0 ign pad low s
  | .hdrB02S1 ign pad low => Sys2Proof.Machine.execHdrB02S1 ign pad low s
  | .hdrB02S2 ign pad low => Sys2Proof.Machine.execHdrB02S2 ign pad low s
  | .hdrB03S0 ign pad low => Sys2Proof.Machine.execHdrB03S0 ign pad low s
  | .hdrB03S1 ign pad low => Sys2Proof.Machine.execHdrB03S1 ign pad low s
  | .hdrB03S2 ign pad low => Sys2Proof.Machine.execHdrB03S2 ign pad low s
  | .hdrB04S0 ign pad low => Sys2Proof.Machine.execHdrB04S0 ign pad low s
  | .hdrB04S1 ign pad low => Sys2Proof.Machine.execHdrB04S1 ign pad low s
  | .hdrB04S2 ign pad low => Sys2Proof.Machine.execHdrB04S2 ign pad low s
  | .hdrB05S0 ign pad low => Sys2Proof.Machine.execHdrB05S0 ign pad low s
  | .hdrB05S1 ign pad low => Sys2Proof.Machine.execHdrB05S1 ign pad low s
  | .hdrB05S2 ign pad low => Sys2Proof.Machine.execHdrB05S2 ign pad low s
  | .hdrB06S0 ign pad low => Sys2Proof.Machine.execHdrB06S0 ign pad low s
  | .hdrB06S1 ign pad low => Sys2Proof.Machine.execHdrB06S1 ign pad low s
  | .hdrB06S2 ign pad low => Sys2Proof.Machine.execHdrB06S2 ign pad low s
  | .hdrB07S0 ign pad low => Sys2Proof.Machine.execHdrB07S0 ign pad low s
  | .hdrB07S1 ign pad low => Sys2Proof.Machine.execHdrB07S1 ign pad low s
  | .hdrB07S2 ign pad low => Sys2Proof.Machine.execHdrB07S2 ign pad low s
  | .hdrB08S0 ign pad low => Sys2Proof.Machine.execHdrB08S0 ign pad low s
  | .hdrB08S1 ign pad low => Sys2Proof.Machine.execHdrB08S1 ign pad low s
  | .hdrB08S2 ign pad low => Sys2Proof.Machine.execHdrB08S2 ign pad low s
  | .hdrB09S0 ign pad low => Sys2Proof.Machine.execHdrB09S0 ign pad low s
  | .hdrB09S1 ign pad low => Sys2Proof.Machine.execHdrB09S1 ign pad low s
  | .hdrB09S2 ign pad low => Sys2Proof.Machine.execHdrB09S2 ign pad low s
  | .hdrB10S0 ign pad low => Sys2Proof.Machine.execHdrB10S0 ign pad low s
  | .hdrB10S1 ign pad low => Sys2Proof.Machine.execHdrB10S1 ign pad low s
  | .hdrB10S2 ign pad low => Sys2Proof.Machine.execHdrB10S2 ign pad low s
  | .hdrB11S0 ign pad low => Sys2Proof.Machine.execHdrB11S0 ign pad low s
  | .hdrB11S1 ign pad low => Sys2Proof.Machine.execHdrB11S1 ign pad low s
  | .hdrB11S2 ign pad low => Sys2Proof.Machine.execHdrB11S2 ign pad low s
  | .hdrB12S0 ign pad low => Sys2Proof.Machine.execHdrB12S0 ign pad low s
  | .hdrB12S1 ign pad low => Sys2Proof.Machine.execHdrB12S1 ign pad low s
  | .hdrB12S2 ign pad low => Sys2Proof.Machine.execHdrB12S2 ign pad low s
  | .hdrB13S0 ign pad low => Sys2Proof.Machine.execHdrB13S0 ign pad low s
  | .hdrB13S1 ign pad low => Sys2Proof.Machine.execHdrB13S1 ign pad low s
  | .hdrB13S2 ign pad low => Sys2Proof.Machine.execHdrB13S2 ign pad low s
  | .hdrB14S0 ign pad low => Sys2Proof.Machine.execHdrB14S0 ign pad low s
  | .hdrB14S1 ign pad low => Sys2Proof.Machine.execHdrB14S1 ign pad low s
  | .hdrB14S2 ign pad low => Sys2Proof.Machine.execHdrB14S2 ign pad low s
  -- host commands (R123, R124, R126, R128, R139)
  | .data byte => Sys2Proof.Machine.execData byte s
  | .eos ign => Sys2Proof.Machine.execEos ign s
  | .fail cause => Sys2Proof.Machine.execFail cause s
  | .rsvd3 ign => Sys2Proof.Machine.execRsvd3 ign s
  | .reset => Sys2Proof.Machine.execReset s

end Sys2Proof.Machine
end

