-- ==== Sys2Proof/Machine/Sequencer.lean ====
section
/-! DEFINITION. What one step of the machine does (R7): inside a CHUNK, one iteration of the scan loop, which fetches
the header at the cursor, decodes it and runs it; between CHUNKs, the next thing the host presents. -/

namespace Sys2Proof.Machine

/-- The instruction at the cursor: the header of the four bytes there (R59, R100). -/
def fetchInstr (s : State) : Except DecodeError Instr := decodeBytes (s.pending.drop s.cursor)

/-- This iteration of the loop is its last one: its outcome is `SUSPEND` or `EXHAUST` (R106). -/
def scanHalts (s : State) : Bool := (scanStep s).1.halts

/-- The end of a CHUNK: `COMPACT`, and the host's next command is awaited (R109, R24). -/
def endScan {causeW : Nat} (s : State causeW) : State causeW := { compact s with phase := .idle }

/-- The next state of an instruction carried on by `k`; a stop stays that stop. -/
def afterExec (r : Host.Outcome State Fault Refusal) (k : State → State) : Host.Outcome State Fault Refusal :=
  match r with
  | .next t => .next (k t)
  | .fault e => .fault e
  | .refused e => .refused e

/-- One iteration of the scan loop (R7, R106): `S_EXHAUST` where no header can be fetched, else the fetched header's
meaning; the halting iteration is followed by `COMPACT` in the same step (log entry 11). -/
def scanIteration (s : State) : Host.Outcome State Fault Refusal :=
  match fetchInstr s with
  | .error _ => .next (endScan (sExhaust s))
  | .ok i => afterExec (exec i s) (fun t => if scanHalts s then endScan t else t)

/-- A transaction-level CHUNK is opened: step 1 of R124, after which its scan loop runs one iteration a step (R7, log
entry 1). In `DONE` it is ignored (R129). -/
def openChunk (chunk : List Byte) (s : State) : State :=
  match s.phase with
  | .idle => { append chunk s with phase := .scanning }
  | .scanning => s
  | .done => s

/-- The beat a sample presents: one where `in_valid = 1` (R135). -/
def PortIn.presents (p : PortIn) : Option Beat := if p.inValid then some ⟨p.inKind, p.inData⟩ else none

/-- What is still to be held after an edge: the beat presented on it where `rst = 1`, since no beat happens there
(R135). -/
def presentedAfter (p : PortIn) : Option Beat := if p.rst then p.presents else none

/-- The host holds the beat it presented: the next sample presents the same one (R135, R170). A transaction-level CHUNK
is no sample that does (DESIGN CHOICE, log entry 27). -/
def keepsBeat (presented : Option Beat) (x : Input) : Bool :=
  match presented, x with
  | none, _ => true
  | some b, .edge p => decide (p.presents = some b)
  | some _, .chunk _ => false

/-- A rising clock edge with `in_ready = 1` or `rst = 1`: RESET and nothing else when `rst = 1`, a beat when
`in_valid = 1`, nothing otherwise (R134, R135, R136). -/
def portEdge (p : PortIn) (s : State) : Host.Outcome State Fault Refusal :=
  if p.rst then exec .reset { s with presented := presentedAfter p }
  else if p.inValid then exec (decodeBeat p.inKind p.inData) { s with presented := presentedAfter p }
  else .next { s with presented := presentedAfter p }

/-- The oldest input is a sample with `rst = 1`. -/
def rstAsserted (s : State) : Bool :=
  match s.inputs with
  | .edge p :: _ => p.rst
  | .chunk _ :: _ => false
  | [] => false

/-- An input takes effect. -/
def inputStep (x : Input) (s : State) : Host.Outcome State Fault Refusal :=
  match x with
  | .edge p => portEdge p s
  | .chunk bytes => .next (openChunk bytes s)

/-- The host's next input takes effect; with none the machine waits (R161, log entry 14). Where the host does not hold
the beat it presented, the trace is refused (R170, log entry 26). -/
def takeInput (s : State) : Host.Outcome State Fault Refusal :=
  match s.inputs with
  | [] => .next s
  | x :: rest => if keepsBeat s.presented x then inputStep x { s with inputs := rest } else .refused .beatNotHeld

/-- In `SCANNING` the loop goes on, unless `rst` is 1, which acts at any time (R123, R137; log entry 9). -/
def scanOrReset (s : State) : Host.Outcome State Fault Refusal :=
  if rstAsserted s then takeInput s else scanIteration s

/-! ### Placing a table word where the next step takes its instruction (log entries 13, 20) -/

/-- A sample with `rst = 1`. -/
def Input.isRst : Input → Bool
  | .edge p => p.rst
  | .chunk _ => false

/-- The header's bytes at the cursor of an open scan, with no `rst` before it. -/
def placeHeader (word : Hdr) (s : State) : State :=
  { s with
    pending := s.pending.take s.cursor ++ bytesOfHdr word ++ s.pending.drop (s.cursor + 4)
    cursor := (s.pending.take s.cursor).length
    phase := .scanning
    result := .none
    nonEmpty := true
    inputs := s.inputs.dropWhile Input.isRst
    presented := none }

/-- A port sample as the next input, with no scan under way. -/
def placeEdge (p : PortIn) (s : State) : State :=
  { s with
    phase := if s.phase = .scanning then .idle else s.phase
    inputs := .edge p :: s.inputs
    presented := none }

/-- The code of a table word, placed. -/
def placeCode (c : Code) (s : State) : State :=
  match c with
  | .hdr word => placeHeader word s
  | .beat kind data => placeEdge ⟨false, true, kind, data⟩ s
  | .rst level => placeEdge ⟨level == 1#1, false, 0#2, 0#8⟩ s

end Sys2Proof.Machine
end

