-- ==== Sys2Proof/Machine/Step.lean ====
section
/-! DEFINITION. The step function (R7). -/

namespace Sys2Proof.Machine

/-- One step: an iteration of the scan loop inside a CHUNK, the host's next input otherwise (R7, R24, R53). -/
def step (s : State) : Host.Outcome State Fault Refusal :=
  match s.phase with
  | .idle => takeInput s
  | .scanning => scanOrReset s
  | .done => takeInput s

/-- The state with a word of the opcode table where the next step takes its instruction: a header at the cursor of an
open scan, a beat or `rst` as the next port sample. A word of no format changes nothing. -/
def State.withFetchWord (s : State) (nbits w : Nat) : State :=
  match codeOfTableWord nbits w with
  | some c => placeCode c s
  | none => s

end Sys2Proof.Machine
end

