-- ==== Sys2Proof/Machine/Port.lean ====
section
/-! DEFINITION. What the host reads from the block: the output ports (R134, R138) and the output of a scan (R130). -/

namespace Sys2Proof.Machine

variable {causeW : Nat}

/-- `in_ready`: low only while a command is carried out (R137). -/
def State.inReady (s : State causeW) : Bool := s.phase != .scanning

/-- A beat happens at a clock edge (R135). -/
def beatHappens (p : PortIn) (s : State) : Bool := !p.rst && p.inValid && s.inReady

/-- The output ports of a build with a `countW`-bit `frame_count` (R134). -/
structure PortOut (countW : Nat) where
  inReady : Bool
  done : Bool
  status : BitVec 3
  /-- No value where the count does not fit: what the register then does is not defined (R174, log entry 6). -/
  frameCount : Option (BitVec countW)
  failCause : Byte
  deriving DecidableEq, Repr

/-- The output ports in a state (R134, R138). -/
def State.ports (countW : Nat) (s : State) : PortOut countW where
  inReady := s.inReady
  done := s.done
  status := s.result.code
  frameCount := if s.frameCount < 2 ^ countW then some (BitVec.ofNat countW s.frameCount) else none
  failCause := s.failCause

/-- What the host receives at the end of a scan (R15). -/
inductive ScanOutput (causeW : Nat := Config.portCauseW) where
  | count (n : Nat)
  | emptyInput
  | noFramesFound
  | sourceReadFailure (cause : Cause causeW)
  deriving DecidableEq, Repr

/-- The output function (R130): none before the scan has ended. -/
def State.output (s : State causeW) : Option (ScanOutput causeW) :=
  match s.phase, s.result with
  | .done, .ok => some (.count s.frameCount)
  | .done, .emptyInput => some .emptyInput
  | .done, .noFramesFound => some .noFramesFound
  | .done, .sourceReadFailure => some (.sourceReadFailure s.failCause)
  | .done, .none => none
  | .idle, _ => none
  | .scanning, _ => none

/-- The logical cursor (R27, C4): the offset of the cursor in the whole delivered sequence. -/
def State.logicalCursor (s : State causeW) : Nat := s.consumed + s.cursor

/-- The bytes delivered so far (R27, R39). -/
def State.received (s : State causeW) : Nat := s.consumed + s.pending.length

/-- The byte at a logical offset: none once dropped or not yet arrived (R38, R39). The read of one byte. -/
def State.byteAt (s : State causeW) (offset : Nat) : Option Byte :=
  if offset < s.consumed then none else s.pending[offset - s.consumed]?

end Sys2Proof.Machine
end

