-- ==== Sys2Proof/Machine/Driver.lean ====
section
/-! DEFINITION. The host's two drivers (R131, R132), the stimulus notation's lists of bytes (R76, R77), and how a
command sequence is presented to the machine: at transaction level, and on the byte-serial port (R76). -/

namespace Sys2Proof.Machine

variable {causeW : Nat}

/-- `HDR(BR, SR, PAD)`: `FF FB <b2> 00` (R77). -/
def stimHdr (br : BitVec 4) (sr : BitVec 2) (pad : BitVec 1) : List Byte := [0xFF#8, 0xFB#8, br ++ sr ++ pad ++ 0#1, 0x00#8]

/-- `FRAME(BR, SR, PAD)`: the header and zero bytes up to the frame length (R77); the header alone where there is no
length. -/
def stimFrame (br : BitVec 4) (sr : BitVec 2) (pad : BitVec 1) : List Byte :=
  match decodeFields br sr pad with
  | .rejected => stimHdr br sr pad
  | .frameLength len => stimHdr br sr pad ++ List.replicate (len - 4) 0x00#8

/-- The whole-buffer driver (R131). -/
def whole (buffer : List Byte) : List (Command causeW) := [.reset, .chunk buffer, .eos]

/-- The streaming driver (R132). -/
def stream (chunks : List (List Byte)) : List (Command causeW) := .reset :: (chunks.map .chunk ++ [.eos])

/-- The streaming driver with a read failure after the last of the chunks (R132). -/
def streamFail (chunks : List (List Byte)) (cause : Cause causeW) : List (Command causeW) :=
  .reset :: (chunks.map .chunk ++ [.fail cause])

/-- A beat the host presents (R135). -/
def beat (kind : BitVec 2) (data : Byte) : Input := .edge ⟨false, true, kind, data⟩

/-- One cycle with `rst = 1` (R76). -/
def rstCycle : Input := .edge ⟨true, false, 0#2, 0#8⟩

/-- A command as the machine's inputs at transaction level. -/
def Command.inputs : Command → List Input
  | .reset => [rstCycle]
  | .chunk bytes => [.chunk bytes]
  | .eos => [beat 1#2 0#8]
  | .fail cause => [beat 2#2 cause]
  | .rsvd3 => [beat 3#2 0#8]

/-- A command on the signal-level port: a CHUNK of `k` bytes is `k` `DATA` beats (R76, R140). -/
def Command.portInputs : Command → List Input
  | .reset => [rstCycle]
  | .chunk bytes => bytes.map (beat 0#2)
  | .eos => [beat 1#2 0#8]
  | .fail cause => [beat 2#2 cause]
  | .rsvd3 => [beat 3#2 0#8]

end Sys2Proof.Machine
end

