-- ==== Sys2Proof/Machine/Window.lean ====
section
/-! DEFINITION. The window-and-skip implementation of R179, a second design beside the normative machine, and its
correspondence with it (R180). It keeps at most four bytes and a count of bytes to come instead of `pending`. -/

namespace Sys2Proof.Machine

variable {causeW : Nat}

/-- The state of the window machine (R179). `fill` is the length of `win` (log entry 22). -/
structure Window (causeW : Nat := Config.portCauseW) where
  win : List Byte
  skip : Nat
  frameCount : Nat
  nonEmpty : Bool
  phase : Phase
  result : Result
  failCause : Cause causeW
  deriving DecidableEq, Repr

/-- After RESET: nothing held, nothing to skip. -/
def Window.reset : Window causeW where
  win := []
  skip := 0
  frameCount := 0
  nonEmpty := false
  phase := .idle
  result := .none
  failCause := 0#causeW

/-- `fill` (R179): how many bytes are held. -/
def Window.fill (w : Window causeW) : Nat := w.win.length

/-- A byte while a recognised frame is still arriving; its last byte counts it (R179). -/
def Window.skipByte (w : Window causeW) : Window causeW :=
  { w with skip := w.skip - 1, frameCount := if w.skip - 1 = 0 then w.frameCount + 1 else w.frameCount }

/-- A byte into the window; the fourth one decides (R179). -/
def Window.pushByte (d : Byte) (w : Window causeW) : Window causeW :=
  match memRead4 (w.win ++ [d]) 0 with
  | none => { w with win := w.win ++ [d] }
  | some hdr =>
    match classify hdr with
    | .nosync => { w with win := (w.win ++ [d]).drop 1 }
    | .reject => { w with win := (w.win ++ [d]).drop 1 }
    | .valid len => { w with win := [], skip := len - 4 }

/-- A `DATA` byte in phase `IDLE` (R179). -/
def Window.byte (d : Byte) (w : Window causeW) : Window causeW :=
  let w' := { w with nonEmpty := true }
  if 0 < w.skip then w'.skipByte else w'.pushByte d

/-- `DATA` bytes one after the other; ignored outside `IDLE` (R129). -/
def Window.bytes (ds : List Byte) (w : Window causeW) : Window causeW :=
  match w.phase with
  | .idle => ds.foldl (fun v d => v.byte d) w
  | .scanning => w
  | .done => w

/-- The end of a scan: `win` and `skip` are discarded (R179). -/
def Window.terminate (r : Result) (w : Window causeW) : Window causeW := { w with win := [], skip := 0, result := r, phase := .done }

/-- A command on the window machine, decided as R126 and R128 say. -/
def Window.apply (c : Command causeW) (w : Window causeW) : Window causeW :=
  match c with
  | .reset => Window.reset
  | .chunk ds => w.bytes ds
  | .eos =>
    match w.phase with
    | .idle => w.terminate (eosResult w.nonEmpty w.frameCount)
    | .scanning => w
    | .done => w
  | .fail cause =>
    match w.phase with
    | .idle => { w.terminate .sourceReadFailure with failCause := cause }
    | .scanning => w
    | .done => w
  | .rsvd3 => w

/-- A command sequence on the window machine. -/
def Window.run : List (Command causeW) → Window causeW → Window causeW
  | [], w => w
  | c :: cs, w => Window.run cs (w.apply c)

/-- The bytes `pending` holds, as the window machine accounts for them in phase `IDLE` (R180): the window itself, or a
valid header with all but `skip` of its frame's bytes. -/
def Window.holds (w : Window causeW) (pending : List Byte) : Prop :=
  if w.skip = 0 then pending = w.win ∧ w.fill ≤ 3
  else w.win = [] ∧ ∃ hdr len, memRead4 pending 0 = some hdr ∧ classify hdr = .valid len ∧
    w.skip < len ∧ pending.length = len - w.skip

/-- The correspondence of R180. In `DONE` both machines have discarded what they held. -/
def Window.Corresponds (w : Window causeW) (s : State causeW) : Prop :=
  (s.phase = .idle → w.holds s.pending) ∧ (s.phase = .done → w.win = [] ∧ w.skip = 0 ∧ s.pending = []) ∧
    w.frameCount = s.frameCount ∧ w.nonEmpty = s.nonEmpty ∧ w.phase = s.phase ∧ w.result = s.result ∧
    w.failCause = s.failCause

end Sys2Proof.Machine
end

