-- ==== Sys2Proof/Safety.lean ====
section
/-! DEFINITION. What a safe run is, in the terms the claims use: the well-formed states of R36 and the states between
chunks (R113). -/

namespace Sys2Proof.Machine

variable {causeW : Nat}

/-- The header at the start of a byte sequence is valid and its frame is not complete: case (b) of R113. -/
def SuspendedOn (pending : List Byte) : Prop :=
  ∃ hdr len, memRead4 pending 0 = some hdr ∧ classify hdr = .valid len ∧ pending.length < len

/-- What `pending` is between chunks (R113, R36 item 6): fewer than four bytes, or a suspended frame. -/
def Settled (pending : List Byte) : Prop := pending.length < 4 ∨ SuspendedOn pending

/-- The well-formed states (R36), with `SCANNING` admitted inside a CHUNK (R24); the model's form of R36 is log entry
25. -/
structure State.Inv (s : State causeW) : Prop where
  /-- R36 item 1, R114. -/
  cursor_le : s.cursor ≤ s.pending.length
  /-- R36 item 2: the result is final exactly in `DONE`. -/
  done_iff : s.phase = .done ↔ s.result ≠ .none
  /-- R36 item 3. -/
  cursor_zero : s.phase ≠ .scanning → s.cursor = 0
  /-- R36 item 4. -/
  done_pending : s.phase = .done → s.pending = []
  /-- R36 item 5. -/
  empty : s.nonEmpty = false → s.pending = [] ∧ s.frameCount = 0 ∧ s.consumed = 0
  /-- R36 item 6, R113. -/
  settled : s.phase = .idle → Settled s.pending
  /-- R36 item 7. -/
  ok_count : s.result = .ok → 1 ≤ s.frameCount
  /-- R36 item 7. -/
  failed_count : s.result = .emptyInput ∨ s.result = .noFramesFound → s.frameCount = 0
  /-- R36 item 7: `EMPTY_INPUT` exactly when the scan ended, not by FAIL, with nothing delivered. -/
  empty_iff : s.result = .emptyInput ↔ s.phase = .done ∧ s.nonEmpty = false ∧ s.result ≠ .sourceReadFailure
  /-- R28: the cause is written by FAIL only. -/
  cause_zero : s.result ≠ .sourceReadFailure → s.failCause = 0#causeW

/-- A step is safe when it answers a next state: no step of FSV faults (R153), and only a host that does not hold its
beat is refused (R170). -/
def State.Safe (s : State) : Prop := ∃ t, step s = .next t

/-- The host keeps R135 and R170 in all it presents, from what it has presented already: each beat presented while
`rst` is 1 is presented again on the next edge. -/
def keepsProtocol : Option Beat → List Input → Bool
  | _, [] => true
  | presented, .edge p :: rest => keepsBeat presented (.edge p) && keepsProtocol (presentedAfter p) rest
  | presented, .chunk bytes :: rest => keepsBeat presented (.chunk bytes) && keepsProtocol none rest

/-- What follows a step: a next state goes on, a stop stays. -/
def afterStep (r : Host.Outcome State Fault Refusal) (k : State → Host.Outcome State Fault Refusal) :
    Host.Outcome State Fault Refusal :=
  match r with
  | .next t => k t
  | .fault e => .fault e
  | .refused e => .refused e

/-- `k` steps of the machine, stopping at the first stop: `Host.Core.run` of this machine, at its own types. -/
def runSteps : Nat → State → Host.Outcome State Fault Refusal
  | 0, s => .next s
  | k + 1, s => afterStep (step s) (runSteps k)

end Sys2Proof.Machine
end

