-- ==== Sys2Proof/Certificates/Slice0/Obligations.lean ====
section
/-! DEFINITION. What is claimed of the model, for the provers. Each docstring names the rule of spec/ it formalises.
Header rows are named through `Instr.hdrRow` and `Instr.hdrKind` (the opcode table's rows, Sys2Proof/Decode.lean):
`nosync` are `nosync31` to `nosync21`, `reject` are `rejBr0`, `rejBr15`, `rejSr3`, `valid` are `hdrB01S0` to
`hdrB14S2`. -/

open Sys2Proof Sys2Proof.Machine

/-! ### Encoding -/

/-- R60, R67, R68, R69, R74: no bit of an encoding is dropped. Every instruction, every operand value. -/
def Obligations.DecodeEncodeRoundTrip : Prop :=
  ∀ i : Instr, i.wf = true → decode (encode i) = .ok i

/-- The other direction: what decodes is the one well-formed instruction with that code. -/
def Obligations.EncodeDecodeRoundTrip : Prop :=
  ∀ (c : Code) (i : Instr), decode c = .ok i → encode i = c ∧ i.wf = true

/-- R67, R68, R69: a header word matches the mask and pattern of the row it decodes to; and a word that matches a
`NOSYNC` or `VALID` row decodes to that row (these rows overlap with no other). -/
def Obligations.HeaderDecodesToItsRow : Prop :=
  (∀ (hdr : Hdr) (row : HdrRow), (decodeHeader hdr).hdrRow = some row → hdr &&& row.mask = row.pattern) ∧
  (∀ (hdr : Hdr) (i : Instr) (row : HdrRow), i.hdrRow = some row → row.outcome ≠ .reject →
    hdr &&& row.mask = row.pattern → (decodeHeader hdr).hdrRow = some row)

/-- R66, R68: a word is of a `REJECT` row exactly when its sync matches and an index is reserved, and which row answers
where two match is the model's choice (log entry 3), which this leaves open. -/
def Obligations.ThreeKindsOfHeader : Prop :=
  ∀ hdr : Hdr,
    ((decodeHeader hdr).hdrKind = some .nosync ↔ hdrSync hdr ≠ 0x7FF#11) ∧
    ((decodeHeader hdr).hdrKind = some .reject ↔
      hdrSync hdr = 0x7FF#11 ∧ (hdrBr hdr = 0#4 ∨ hdrBr hdr = 15#4 ∨ hdrSr hdr = 3#2)) ∧
    ((decodeHeader hdr).hdrKind = some .valid ↔
      hdrSync hdr = 0x7FF#11 ∧ 1 ≤ (hdrBr hdr).toNat ∧ (hdrBr hdr).toNat ≤ 14 ∧ (hdrSr hdr).toNat ≤ 2)

/-- Words written out from the encodings of R67, R68, R69, R74: one of each family. A sanity statement. -/
def Obligations.WrittenOutWordsDecode : Prop :=
  decode (.hdr 0xFFFB9000#32) = .ok (.hdrB09S0 0b11011#5 0#1 0#9) ∧
  decode (.hdr 0xFFE01400#32) = .ok (.hdrB01S1 0#5 0#1 0#9) ∧
  decode (.hdr 0xFFFFEA00#32) = .ok (.hdrB14S2 0b11111#5 1#1 0#9) ∧
  decode (.hdr 0xFFDB9000#32) = .ok (.nosync21 0x1B9000#21) ∧
  decode (.hdr 0x12349000#32) = .ok (.nosync31 0x12349000#31) ∧
  decode (.hdr 0xFFFBF000#32) = .ok (.rejBr15 0b11011#5 0#2 0#1 0#9) ∧
  decode (.hdr 0xFFFB0000#32) = .ok (.rejBr0 0b11011#5 0#2 0#1 0#9) ∧
  decode (.hdr 0xFFFB9C00#32) = .ok (.rejSr3 0b11011#5 9#4 0#1 0#9) ∧
  decode (.beat 0#2 0xFF#8) = .ok (.data 0xFF#8) ∧
  decode (.beat 1#2 0#8) = .ok (.eos 0#8) ∧
  decode (.beat 2#2 0x2A#8) = .ok (.fail 0x2A#8) ∧
  decode (.beat 3#2 0#8) = .ok (.rsvd3 0#8) ∧
  decode (.rst 1#1) = .ok .reset

/-- R65: two headers that differ only in ignored bits are in the same class, decode alike on every port of the decoder
and have the same effect on every state. -/
def Obligations.IgnoredBitsHaveNoEffect : Prop :=
  ∀ h₁ h₂ : Hdr, hdrSync h₁ = hdrSync h₂ → hdrBr h₁ = hdrBr h₂ → hdrSr h₁ = hdrSr h₂ → hdrPad h₁ = hdrPad h₂ →
    classify h₁ = classify h₂ ∧ (decodeHeader h₁).hdrRow = (decodeHeader h₂).hdrRow ∧
    decodeHdr h₁ = decodeHdr h₂ ∧ decoderPorts h₁ = decoderPorts h₂ ∧
    ∀ s : State, exec (decodeHeader h₁) s = exec (decodeHeader h₂) s

/-! ### The header decoder -/

/-- R42, R43: `MemRead(addr, 4)` and `MemRead(addr, 2)` are big-endian and are there exactly when their bytes are. -/
def Obligations.HeaderReadIsBigEndian : Prop :=
  ∀ (bytes : List Byte) (addr : Nat),
    (∀ hdr : Hdr, memRead4 bytes addr = some hdr ↔
      ∃ b0 b1 b2 b3 : Byte, bytes[addr]? = some b0 ∧ bytes[addr + 1]? = some b1 ∧ bytes[addr + 2]? = some b2 ∧
        bytes[addr + 3]? = some b3 ∧
        hdr.toNat = b0.toNat * 2 ^ 24 + b1.toNat * 2 ^ 16 + b2.toNat * 2 ^ 8 + b3.toNat) ∧
    (∀ half : BitVec 16, memRead2 bytes addr = some half ↔
      ∃ b0 b1 : Byte, bytes[addr]? = some b0 ∧ bytes[addr + 1]? = some b1 ∧
        half.toNat = b0.toNat * 2 ^ 8 + b1.toNat) ∧
    ((memRead4 bytes addr).isSome = true ↔ addr + 4 ≤ bytes.length) ∧
    ((memRead2 bytes addr).isSome = true ↔ addr + 2 ≤ bytes.length)

/-- R61, R81: the two-byte test, the eleven-bit test and the mask test are one test. -/
def Obligations.SyncMatchIsElevenOnes : Prop :=
  ∀ hdr : Hdr, (syncMatch hdr = true ↔ hdrSync hdr = 0x7FF#11) ∧
    (syncMatch hdr = true ↔ hdr &&& 0xFFE00000#32 = 0xFFE00000#32) ∧
    (syncMatch hdr = true ↔ hdr.extractLsb' 24 8 = 0xFF#8 ∧ hdr.extractLsb' 16 8 &&& 0xE0#8 = 0xE0#8)

/-- R85: the rejection by table value and the rejection by index. -/
def Obligations.DecodeRejectsReservedIndices : Prop :=
  ∀ hdr : Hdr,
    (decodeHdr hdr = .rejected ↔ brLookup (hdrBr hdr) = 0 ∨ srLookup (hdrSr hdr) = 0) ∧
    (decodeHdr hdr = .rejected ↔ hdrBr hdr = 0#4 ∨ hdrBr hdr = 15#4 ∨ hdrSr hdr = 3#2)

/-- R87: a header that is not rejected has the length of the formula, in the source's own numbers. -/
def Obligations.FrameLengthFormula : Prop :=
  ∀ (hdr : Hdr) (len : Nat), decodeHdr hdr = .frameLength len ↔
    ∃ kbps hz : Nat,
      [0, 32, 40, 48, 56, 64, 80, 96, 112, 128, 160, 192, 224, 256, 320, 0][(hdrBr hdr).toNat]? = some kbps ∧
      [44100, 48000, 32000, 0][(hdrSr hdr).toNat]? = some hz ∧ kbps ≠ 0 ∧ hz ≠ 0 ∧
      len = 144 * kbps * 1000 / hz + (hdrPad hdr).toNat

/-- R91, R96: the table of bases with an adder is the decoder. -/
def Obligations.TableFormIsTheDecoder : Prop :=
  ∀ hdr : Hdr, tableDecode hdr = decodeHdr hdr

/-- R93: least and greatest length, both reached; 78 distinct lengths over the 84 combinations; the three shared
bases. -/
def Obligations.FrameLengthRange : Prop :=
  (∀ (hdr : Hdr) (len : Nat), decodeHdr hdr = .frameLength len → 96 ≤ len ∧ len ≤ 1441) ∧
  decodeFields 1#4 1#2 0#1 = .frameLength 96 ∧ decodeFields 14#4 2#2 1#1 = .frameLength 1441 ∧
  (((List.range 128).map (fun k => decodeFields (BitVec.ofNat 4 (k / 8)) (BitVec.ofNat 2 (k / 2)) (BitVec.ofNat 1 k))).filter
    (· ≠ .rejected)).length = 84 ∧
  (((List.range 128).map (fun k => decodeFields (BitVec.ofNat 4 (k / 8)) (BitVec.ofNat 2 (k / 2)) (BitVec.ofNat 1 k))).filter
    (· ≠ .rejected)).dedup.length = 78 ∧
  decodeFields 1#4 2#2 0#1 = decodeFields 3#4 1#2 0#1 ∧ decodeFields 5#4 2#2 0#1 = decodeFields 7#4 1#2 0#1 ∧
  decodeFields 9#4 2#2 0#1 = decodeFields 11#4 1#2 0#1

/-- R80: every port of the decoder sub-block, with its width wide enough for its value. -/
def Obligations.DecoderPortsCarryTheDecode : Prop :=
  ∀ hdr : Hdr,
    ((decoderPorts hdr).syncOk = 1#1 ↔ syncMatch hdr = true) ∧
    (decoderPorts hdr).brIndex = hdrBr hdr ∧ (decoderPorts hdr).srIndex = hdrSr hdr ∧
    (decoderPorts hdr).padding = hdrPad hdr ∧
    (decoderPorts hdr).bitrateKbps.toNat = brLookup (hdrBr hdr) ∧
    (decoderPorts hdr).samplerateHz.toNat = srLookup (hdrSr hdr) ∧
    (∀ len, decodeHdr hdr = .frameLength len →
      (decoderPorts hdr).accepted = 1#1 ∧ (decoderPorts hdr).frameLen.toNat = len) ∧
    (decodeHdr hdr = .rejected → (decoderPorts hdr).accepted = 0#1 ∧ (decoderPorts hdr).frameLen = 0#11) ∧
    (decoderPorts hdr).hdrValid = (decoderPorts hdr).syncOk &&& (decoderPorts hdr).accepted

/-- R88: `CLASSIFY` and the opcode table agree on every word; a valid row's length is its base and the padding bit. -/
def Obligations.ClassifyAgreesWithTable : Prop :=
  ∀ (hdr : Hdr) (row : HdrRow), (decodeHeader hdr).hdrRow = some row →
    (row.outcome = .nosync → classify hdr = .nosync) ∧
    (row.outcome = .reject → classify hdr = .reject) ∧
    (row.outcome = .valid → classify hdr = .valid (row.base + (hdrPad hdr).toNat))

/-! ### The scan step -/

/-- R101 for `nosync31` to `nosync21`: where the guard holds, the cursor advances one byte and nothing else changes. -/
def Obligations.NoSyncRowsSkipOneByte : Prop :=
  ∀ (i : Instr) (s : State), i.hdrKind = some .nosync → s.cursor + 4 ≤ s.pending.length →
    exec i s = .next { s with cursor := s.cursor + 1 }

/-- R102 for `rejBr0`, `rejBr15`, `rejSr3`: the same advance of one byte, and nothing else. -/
def Obligations.RejectRowsAdvanceOneByte : Prop :=
  ∀ (i : Instr) (s : State), i.hdrKind = some .reject → s.cursor + 4 ≤ s.pending.length →
    exec i s = .next { s with cursor := s.cursor + 1 }

/-- R103 for `hdrB01S0` to `hdrB14S2`: with the whole frame there, it is counted and jumped over, and nothing else
changes. The length is the table's base with the word's padding bit. -/
def Obligations.ValidRowsAcceptWholeFrame : Prop :=
  ∀ (i : Instr) (w : Hdr) (row : HdrRow) (s : State), encode i = .hdr w → i.hdrRow = some row → row.outcome = .valid →
    s.cursor + 4 ≤ s.pending.length → s.cursor + (row.base + (hdrPad w).toNat) ≤ s.pending.length →
    exec i s = .next { s with
      frameCount := s.frameCount + 1, cursor := s.cursor + (row.base + (hdrPad w).toNat) }

/-- R104 for `hdrB01S0` to `hdrB14S2`: with a byte of the frame missing, nothing changes. -/
def Obligations.ValidRowsSuspendWithoutChange : Prop :=
  ∀ (i : Instr) (w : Hdr) (row : HdrRow) (s : State), encode i = .hdr w → i.hdrRow = some row → row.outcome = .valid →
    s.cursor + 4 ≤ s.pending.length → s.pending.length < s.cursor + (row.base + (hdrPad w).toNat) →
    exec i s = .next s

/-- R105: below the four-byte floor the outcome is `EXHAUST` with no state change. That a header row asked for there
changes nothing either is the model's reading (log entry 10). -/
def Obligations.BelowFloorExhausts : Prop :=
  ∀ s : State, s.pending.length < s.cursor + 4 →
    scanStep s = (.exhaust, s) ∧ hdrFetch s = none ∧ fetchInstr s = .error .headerTooShort ∧
    ∀ i : Instr, i.hdrKind.isSome = true → exec i s = .next s

/-- R106: the scan step, case by case: below the floor, and for the header at the cursor; and which outcomes halt. -/
def Obligations.ScanStepOutcomes : Prop :=
  (∀ {causeW : Nat} (s : State causeW), s.pending.length < s.cursor + 4 → scanStep s = (.exhaust, s)) ∧
  (∀ {causeW : Nat} (s : State causeW) (hdr : Hdr), memRead4 s.pending s.cursor = some hdr →
    (syncMatch hdr = false → scanStep s = (.skip, { s with cursor := s.cursor + 1 })) ∧
    (syncMatch hdr = true → decodeHdr hdr = .rejected →
      scanStep s = (.reject, { s with cursor := s.cursor + 1 })) ∧
    (∀ len, syncMatch hdr = true → decodeHdr hdr = .frameLength len → s.cursor + len ≤ s.pending.length →
      scanStep s = (.accept len, { s with frameCount := s.frameCount + 1, cursor := s.cursor + len })) ∧
    (∀ len, syncMatch hdr = true → decodeHdr hdr = .frameLength len → s.pending.length < s.cursor + len →
      scanStep s = (.suspend len, s))) ∧
  (StepOutcome.skip.halts = false ∧ StepOutcome.reject.halts = false ∧
    (∀ len, (StepOutcome.accept len).halts = false ∧ (StepOutcome.suspend len).halts = true) ∧
    StepOutcome.exhaust.halts = true)

/-- R106 and the opcode map: for every one of the 2^32 headers, the meaning of the row it decodes to is the scan step
on it. -/
def Obligations.RowMeaningIsTheScanStep : Prop :=
  ∀ (s : State) (hdr : Hdr), memRead4 s.pending s.cursor = some hdr →
    fetchInstr s = .ok (decodeHeader hdr) ∧ exec (decodeHeader hdr) s = .next (scanStep s).2

/-- R32, R46: the frame of the 56 header rows. They change only the cursor and the frame counter, in every state: the
counter only by the valid rows, and then by one. -/
def Obligations.HeaderRowsFrame : Prop :=
  ∀ (i : Instr) (s t : State), i.hdrKind.isSome = true → exec i s = .next t →
    t.pending = s.pending ∧ t.phase = s.phase ∧ t.result = s.result ∧ t.nonEmpty = s.nonEmpty ∧
    t.failCause = s.failCause ∧ t.consumed = s.consumed ∧ t.inputs = s.inputs ∧ t.presented = s.presented ∧
    (∀ offset, t.byteAt offset = s.byteAt offset) ∧
    (t.frameCount = s.frameCount ∨ (i.hdrKind = some .valid ∧ t.frameCount = s.frameCount + 1))

/-! ### The scan loop -/

/-- R108: a continuing step moves the cursor on by at least 1, an `ACCEPT` by at least 96, and keeps it inside an
unchanged `pending`; so from cursor 0 the loop makes at most `n - 3` continuing steps and then one halting step, the
loop's last, and its result is a state in which the scan step halts and changes nothing. -/
def Obligations.ScanLoopTerminates : Prop :=
  (∀ {causeW : Nat} (s : State causeW), (scanStep s).1.halts = false →
    s.cursor + 1 ≤ (scanStep s).2.cursor ∧ (scanStep s).2.cursor ≤ s.pending.length ∧
    (scanStep s).2.pending = s.pending ∧
    ∀ len, (scanStep s).1 = .accept len → 96 ≤ len ∧ (scanStep s).2.cursor = s.cursor + len) ∧
  ∀ {causeW : Nat} (s : State causeW), s.cursor = 0 →
    (∃ (before : List (Nat × StepOutcome)) (last : Nat × StepOutcome), scanTrace s = before ++ [last] ∧
      before.length ≤ s.pending.length - 3 ∧ (∀ e ∈ before, e.2.halts = false) ∧ last.2.halts = true ∧
      scanStep (scanLoop s) = (last.2, scanLoop s)) ∧
    (scanLoop s).cursor ≤ s.pending.length

/-- R111, R22: the loop counts exactly its `ACCEPT` steps, each one, and each at the cursor. -/
def Obligations.LoopCountsItsAccepts : Prop :=
  ∀ {causeW : Nat} (s : State causeW), s.cursor ≤ s.pending.length →
    (scanLoop s).frameCount = s.frameCount + acceptCount s

/-- R112 within a CHUNK's scan: no header is fetched inside the body of an accepted frame. -/
def Obligations.FrameBodiesAreNotFetched : Prop :=
  ∀ {causeW : Nat} (s : State causeW) (p len q : Nat) (o : StepOutcome), s.cursor ≤ s.pending.length →
    (p, StepOutcome.accept len) ∈ scanTrace s → (q, o) ∈ scanTrace s → q ≤ p ∨ p + len ≤ q

/-- R109: `COMPACT`, element by element, with every byte that is kept still at its logical offset. -/
def Obligations.CompactDropsScannedPrefix : Prop :=
  ∀ {causeW : Nat} (s : State causeW), s.cursor ≤ s.pending.length →
    (compact s).pending = s.pending.drop s.cursor ∧ (compact s).consumed = s.consumed + s.cursor ∧
    (compact s).cursor = 0 ∧ (compact s).frameCount = s.frameCount ∧ (compact s).phase = s.phase ∧
    (compact s).result = s.result ∧ (compact s).nonEmpty = s.nonEmpty ∧ (compact s).failCause = s.failCause ∧
    (compact s).logicalCursor = s.logicalCursor ∧ (compact s).received = s.received ∧
    ∀ offset, s.logicalCursor ≤ offset → (compact s).byteAt offset = s.byteAt offset

/-- R113, R117: after a CHUNK, exactly one of: fewer than four bytes, or a valid header whose frame is not complete; in
both at most 1440 bytes; and after the append of a CHUNK to such a `pending`, at most `PENDING_CAP`. -/
def Obligations.ChunkLeavesSettledPending : Prop :=
  ∀ {causeW : Nat} (bytes : List Byte) (s : State causeW), s.phase = .idle → s.cursor = 0 →
    Settled (chunkCommand bytes s).pending ∧
    ¬((chunkCommand bytes s).pending.length < 4 ∧ SuspendedOn (chunkCommand bytes s).pending) ∧
    (chunkCommand bytes s).pending.length ≤ 1440 ∧
    (Settled s.pending → (append bytes s).pending.length ≤ Config.pendingCap bytes.length)

/-! ### Commands -/

/-- R35: the reset values, for every `CAUSE_W`. -/
def Obligations.ResetValues : Prop :=
  ∀ causeW : Nat,
    (State.resetAt causeW).pending = [] ∧ (State.resetAt causeW).cursor = 0 ∧ (State.resetAt causeW).frameCount = 0 ∧
    (State.resetAt causeW).phase = .idle ∧ (State.resetAt causeW).result = .none ∧
    (State.resetAt causeW).nonEmpty = false ∧ (State.resetAt causeW).failCause = 0#causeW ∧
    (State.resetAt causeW).consumed = 0

/-- R123: `RESET`, in every phase, gives every element of the spec's state its reset value; the host's side, what it
still has to present and what it holds, stays (the model's own fields, log entries 2, 27). -/
def Obligations.ResetRestoresEveryElement : Prop :=
  (∀ {causeW : Nat} (s : State causeW),
    (Command.reset).apply s = { State.resetAt causeW with inputs := s.inputs, presented := s.presented }) ∧
  ∀ s : State, exec .reset s = .next { State.reset with inputs := s.inputs, presented := s.presented }

/-- R124, R136: a CHUNK in `IDLE` is the append, the flag, the loop and the compact; `DATA` is the CHUNK of its one
byte; the phase stays `IDLE`, the result `NONE`. -/
def Obligations.DataIsAOneByteChunk : Prop :=
  (∀ {causeW : Nat} (bytes : List Byte) (s : State causeW), s.phase = .idle →
    (Command.chunk bytes).apply s =
      compact (scanLoop { s with pending := s.pending ++ bytes, nonEmpty := s.nonEmpty || decide (0 < bytes.length) })) ∧
  (∀ (byte : Byte) (s : State), s.phase = .idle →
    exec (.data byte) s = .next (compact (scanLoop { s with pending := s.pending ++ [byte], nonEmpty := true })))

/-- R47, R48, R124: the frame of `DATA` in `IDLE`: the phase, the result, the cause and what is still to be presented
stay, one byte more is received, the count does not fall, and every byte not dropped reads as before, the new one at
its end. -/
def Obligations.DataFrame : Prop :=
  ∀ (byte : Byte) (s : State), s.phase = .idle → s.cursor = 0 →
    ∃ t, exec (.data byte) s = .next t ∧ t.phase = .idle ∧ t.result = s.result ∧ t.failCause = s.failCause ∧
      t.inputs = s.inputs ∧ t.presented = s.presented ∧ t.nonEmpty = true ∧ t.cursor = 0 ∧ s.frameCount ≤ t.frameCount ∧
      s.consumed ≤ t.consumed ∧ t.received = s.received + 1 ∧
      ∀ offset, t.byteAt offset =
        if offset < t.consumed then none else if offset = s.received then some byte else s.byteAt offset

/-- R126: `EOS` in `IDLE`, its three outcomes in order, for the command at every `CAUSE_W` and for the row; everything
not named is unchanged. -/
def Obligations.EosEndsTheScan : Prop :=
  (∀ {causeW : Nat} (s : State causeW), s.phase = .idle →
    (s.nonEmpty = false → (Command.eos).apply s = { s with
      result := .emptyInput, consumed := s.consumed + s.pending.length, pending := [], phase := .done }) ∧
    (s.nonEmpty = true → s.frameCount = 0 → (Command.eos).apply s = { s with
      result := .noFramesFound, consumed := s.consumed + s.pending.length, pending := [], phase := .done }) ∧
    (s.nonEmpty = true → s.frameCount ≠ 0 → (Command.eos).apply s = { s with
      result := .ok, consumed := s.consumed + s.pending.length, pending := [], phase := .done })) ∧
  ∀ (ign : Byte) (s : State), s.phase = .idle →
    (s.nonEmpty = false → exec (.eos ign) s = .next { s with
      result := .emptyInput, consumed := s.consumed + s.pending.length, pending := [], phase := .done }) ∧
    (s.nonEmpty = true → s.frameCount = 0 → exec (.eos ign) s = .next { s with
      result := .noFramesFound, consumed := s.consumed + s.pending.length, pending := [], phase := .done }) ∧
    (s.nonEmpty = true → s.frameCount ≠ 0 → exec (.eos ign) s = .next { s with
      result := .ok, consumed := s.consumed + s.pending.length, pending := [], phase := .done })

/-- R128: `FAIL` in `IDLE`, whatever was counted or received, for the command with a cause of `CAUSE_W` bits and for the
row with its 8; everything not named is unchanged. -/
def Obligations.FailEndsTheScan : Prop :=
  (∀ {causeW : Nat} (cause : Cause causeW) (s : State causeW), s.phase = .idle →
    (Command.fail cause).apply s = { s with
      result := .sourceReadFailure, failCause := cause, consumed := s.consumed + s.pending.length, pending := [],
      phase := .done }) ∧
  ∀ (cause : Byte) (s : State), s.phase = .idle →
    exec (.fail cause) s = .next { s with
      result := .sourceReadFailure, failCause := cause, consumed := s.consumed + s.pending.length, pending := [],
      phase := .done }

/-- R139: `RSVD3` has no effect in any phase. -/
def Obligations.ReservedKindHasNoEffect : Prop :=
  ∀ (ign : Byte) (s : State), exec (.rsvd3 ign) s = .next s

/-- R129: in `DONE`, where the port is ready, `DATA`, `EOS`, `FAIL` and every sequence of commands without a RESET
change nothing. -/
def Obligations.DoneIgnoresCommands : Prop :=
  (∀ s : State, s.phase = .done →
    (∀ byte, exec (.data byte) s = .next s) ∧ (∀ ign, exec (.eos ign) s = .next s) ∧
    (∀ cause, exec (.fail cause) s = .next s)) ∧
  ∀ {causeW : Nat} (s : State causeW), s.phase = .done →
    s.inReady = true ∧ ∀ cs : List (Command causeW), Command.reset ∉ cs → runCommands cs s = s

/-- R135, R137: inside a CHUNK no beat happens; the model's reading (log entry 8) is that a command row then changes
nothing. -/
def Obligations.NoBeatWhileScanning : Prop :=
  ∀ s : State, s.phase = .scanning →
    s.inReady = false ∧ (∀ byte, exec (.data byte) s = .next s) ∧ (∀ ign, exec (.eos ign) s = .next s) ∧
    (∀ cause, exec (.fail cause) s = .next s)

/-- R125: a CHUNK of no bytes changes nothing in a well-formed state, is no beat on the port, and a scan of nothing
else ends in `EMPTY_INPUT`. -/
def Obligations.ZeroLengthChunkHasNoEffect : Prop :=
  (∀ {causeW : Nat} (s : State causeW), s.Inv → chunkCommand [] s = s) ∧ (Command.chunk []).portInputs = [] ∧
  ∀ {causeW : Nat} (k : Nat) (s : State causeW),
    (runCommands (.reset :: (List.replicate k (.chunk []) ++ [.eos])) s).output = some .emptyInput

/-- R152: terminal entry, for each kind and for the success, does exactly this. -/
def Obligations.RaiseDoesExactlyThis : Prop :=
  ∀ {causeW : Nat} (s : State causeW),
    raise .emptyInput s = { s with
      result := .emptyInput, consumed := s.consumed + s.pending.length, pending := [], phase := .done } ∧
    raise .noFramesFound s = { s with
      result := .noFramesFound, consumed := s.consumed + s.pending.length, pending := [], phase := .done } ∧
    (∀ cause, raise (.sourceReadFailure cause) s = { s with
      result := .sourceReadFailure, failCause := cause, consumed := s.consumed + s.pending.length, pending := [],
      phase := .done }) ∧
    terminate .ok s = { s with
      result := .ok, consumed := s.consumed + s.pending.length, pending := [], phase := .done }

/-- R141: the transition table of phase and result, over well-formed states between commands. -/
def Obligations.PhaseTransitions : Prop :=
  ∀ {causeW : Nat} (s : State causeW), s.Inv →
    (((Command.reset).apply s).phase = .idle ∧ ((Command.reset).apply s).result = .none) ∧
    (s.phase = .idle →
      (∀ bytes, ((Command.chunk bytes).apply s).phase = .idle ∧ ((Command.chunk bytes).apply s).result = .none) ∧
      ((Command.eos).apply s).phase = .done ∧
      (s.nonEmpty = false → ((Command.eos).apply s).result = .emptyInput) ∧
      (s.nonEmpty = true → s.frameCount = 0 → ((Command.eos).apply s).result = .noFramesFound) ∧
      (s.nonEmpty = true → 1 ≤ s.frameCount → ((Command.eos).apply s).result = .ok) ∧
      (∀ cause, ((Command.fail cause).apply s).phase = .done ∧
        ((Command.fail cause).apply s).result = .sourceReadFailure) ∧
      ((Command.rsvd3).apply s).phase = .idle ∧ ((Command.rsvd3).apply s).result = .none) ∧
    (s.phase = .done → ∀ c : Command causeW, c ≠ .reset → (c.apply s).phase = .done ∧ (c.apply s).result = s.result) ∧
    ¬(s.nonEmpty = false ∧ 1 ≤ s.frameCount)

/-- R127, R130: a success is never delivered with a count of zero, and there is an output exactly when the scan has
ended. -/
def Obligations.OutputOnlyAtTheEnd : Prop :=
  ∀ {causeW : Nat} (s : State causeW), s.Inv →
    (s.output.isSome = true ↔ s.phase = .done) ∧ (∀ n, s.output = some (.count n) → n = s.frameCount ∧ 1 ≤ n) ∧
    (∀ cause, s.output = some (.sourceReadFailure cause) → cause = s.failCause)

/-- R31, R75: the status word's bits, and the five codes. A sanity statement. -/
def Obligations.StatusCodes : Prop :=
  [Result.none, .ok, .emptyInput, .noFramesFound, .sourceReadFailure].map Result.code = [0#3, 1#3, 2#3, 3#3, 4#3] ∧
  (∀ {causeW : Nat} (s : State causeW), s.status.extractLsb' 0 3 = s.result.code ∧ (s.status.getLsbD 3 = true ↔ s.phase = .done)) ∧
  State.reset.status = 0#4

/-! ### Steps of the machine -/

/-- R7, R59, R106: inside a CHUNK, with four bytes at the cursor that decode to `i` and `rst` low, a step is `exec i`,
followed by `COMPACT` and the return to `IDLE` when this iteration halts the loop. -/
def Obligations.StepRunsTheFetchedHeader : Prop :=
  ∀ (s : State) (i : Instr), s.phase = .scanning → rstAsserted s = false →
    decodeBytes (s.pending.drop s.cursor) = .ok i →
    ∃ t, exec i s = .next t ∧
      step s = .next (if (scanStep s).1.halts then { compact t with phase := .idle } else t)

/-- R105, R109: inside a CHUNK, with fewer than four bytes ahead and `rst` low, a step ends the scan with `COMPACT`. -/
def Obligations.StepEndsAnExhaustedScan : Prop :=
  ∀ s : State, s.phase = .scanning → rstAsserted s = false → s.pending.length < s.cursor + 4 →
    step s = .next { compact s with phase := .idle }

/-- R134, R135, R136: between CHUNKs, where the host holds what it presented, a port sample with `rst = 1` is RESET and
nothing else, one with `in_valid = 1` is the command its beat decodes to, any other is nothing. A beat presented with
`rst = 1` is still to be held; a sample that does not hold it is refused (R170, log entries 26, 27). -/
def Obligations.StepTakesThePortSample : Prop :=
  ∀ (s : State) (p : PortIn) (rest : List Input), s.inputs = .edge p :: rest → s.phase ≠ .scanning →
    ((∀ b, s.presented = some b → p.inValid = true ∧ p.inKind = b.kind ∧ p.inData = b.data) →
      (p.rst = true → p.inValid = true →
        step s = exec .reset { s with inputs := rest, presented := some ⟨p.inKind, p.inData⟩ }) ∧
      (p.rst = true → p.inValid = false → step s = exec .reset { s with inputs := rest, presented := none }) ∧
      (p.rst = false → p.inValid = true →
        ∃ i, decode (.beat p.inKind p.inData) = .ok i ∧
          step s = exec i { s with inputs := rest, presented := none }) ∧
      (p.rst = false → p.inValid = false → step s = .next { s with inputs := rest, presented := none })) ∧
    ∀ b, s.presented = some b → ¬(p.inValid = true ∧ p.inKind = b.kind ∧ p.inData = b.data) →
      step s = .refused .beatNotHeld

/-- R123: `rst = 1` acts in every phase, inside a CHUNK too, where the host holds what it presented. -/
def Obligations.ResetPinActsInEveryPhase : Prop :=
  ∀ (s : State) (p : PortIn) (rest : List Input), s.inputs = .edge p :: rest → p.rst = true →
    (∀ b, s.presented = some b → p.inValid = true ∧ p.inKind = b.kind ∧ p.inData = b.data) →
    step s = .next { State.reset with
      inputs := rest, presented := if p.inValid = true then some ⟨p.inKind, p.inData⟩ else none }

/-- R161, R129 and the model's way of carrying out a transaction-level CHUNK (log entries 1, 14): with no input the
machine waits; a CHUNK opens its scan in `IDLE` and is dropped in `DONE`. Where a beat is to be held on the port, a CHUNK
is refused (log entry 27). -/
def Obligations.StepWaitsAndOpensChunks : Prop :=
  ∀ s : State, s.phase ≠ .scanning →
    (s.inputs = [] → step s = .next s) ∧
    (∀ bytes rest, s.inputs = .chunk bytes :: rest →
      (s.presented = none → s.phase = .idle → step s = .next { s with
        pending := s.pending ++ bytes, nonEmpty := s.nonEmpty || decide (0 < bytes.length), phase := .scanning,
        inputs := rest }) ∧
      (s.presented = none → s.phase = .done → step s = .next { s with inputs := rest }) ∧
      (s.presented ≠ none → step s = .refused .beatNotHeld))

/-- R153, R170: no step faults, and the one reason to refuse a step is a beat that the host did not hold. -/
def Obligations.StepsStopOnlyOnABeatNotHeld : Prop :=
  ∀ s : State, (s.presented = none → s.Safe) ∧ (s.Safe ∨ (s.presented ≠ none ∧ step s = .refused .beatNotHeld))

/-- R170: a host that holds every beat it presents is never refused, and goes on being one that does. -/
def Obligations.HeldBeatsAreNeverRefused : Prop :=
  ∀ s : State, keepsProtocol s.presented s.inputs = true →
    ∃ t, step s = .next t ∧ keepsProtocol t.presented t.inputs = true

/-- R115: no step but a RESET moves the logical cursor back. -/
def Obligations.LogicalCursorIsMonotonic : Prop :=
  ∀ s t : State, rstAsserted s = false → step s = .next t → s.logicalCursor ≤ t.logicalCursor

/-! ### Invariants -/

/-- R36, in the model's form (log entry 25), at reset. -/
def Obligations.InvHoldsAtReset : Prop := State.reset.Inv

/-- R36, in the model's form (log entry 25): every step of the machine keeps the well-formed states. -/
def Obligations.StepKeepsInv : Prop :=
  ∀ s t : State, s.Inv → step s = .next t → t.Inv

/-- R36: every state reachable from reset by commands is well formed, with `IDLE` exactly where the result is `NONE`,
and a command never leaves the machine inside a CHUNK (R122). `State.Inv` is R36 as the model reads it: item 7's 'the
scan ended by EOS' is said as a result other than `SOURCE_READ_FAILURE`, and the clause on the cause is from R28 (log
entry 25). -/
def Obligations.ReachableStatesAreWellFormed : Prop :=
  ∀ {causeW : Nat} (cs : List (Command causeW)),
    (runCommands cs (State.resetAt causeW)).Inv ∧ (runCommands cs (State.resetAt causeW)).phase ≠ .scanning ∧
    ((runCommands cs (State.resetAt causeW)).phase = .idle ↔ (runCommands cs (State.resetAt causeW)).result = .none) ∧
    (runCommands cs (State.resetAt causeW)).cursor = 0

/-! ### Whole-machine properties -/

/-- R116: the state after a sequence of CHUNKs depends on the bytes alone, not on how they were cut. -/
def Obligations.ChunkBoundariesDoNotMatter : Prop :=
  (∀ {causeW : Nat} (s : State causeW) (a b : List Byte), s.Inv → s.phase = .idle →
    chunkCommand (a ++ b) s = chunkCommand b (chunkCommand a s)) ∧
  ∀ (causeW : Nat) (cuts₁ cuts₂ : List (List Byte)), cuts₁.flatten = cuts₂.flatten →
    runCommands (cuts₁.map .chunk) (State.resetAt causeW) = runCommands (cuts₂.map .chunk) (State.resetAt causeW)

/-- R132: the streaming driver and the whole-buffer driver have the same output; with a read failure the output is
that failure. -/
def Obligations.StreamEqualsWhole : Prop :=
  ∀ {causeW : Nat} (chunks : List (List Byte)) (s : State causeW),
    (runCommands (stream chunks) s).output = (runCommands (whole chunks.flatten) s).output ∧
    ∀ cause, (runCommands (streamFail chunks cause) s).output = some (.sourceReadFailure cause)

/-- R131: the whole-buffer driver's output, by the frames its scan accepts. -/
def Obligations.WholeBufferOutput : Prop :=
  ∀ {causeW : Nat} (buffer : List Byte) (s : State causeW),
    (runCommands (whole buffer) s).output = some
      (if buffer.length = 0 then .emptyInput
       else if acceptCount (append buffer (State.resetAt causeW)) = 0 then .noFramesFound
       else .count (acceptCount (append buffer (State.resetAt causeW))))

/-- R7, R53, R122: the machine, one step at a time, carries out a command sequence: the scan loop of a CHUNK run one
iteration a step reaches the state the atomic command gives. -/
def Obligations.StepsCarryOutCommands : Prop :=
  ∀ (cs : List Command) (s : State), s.Inv → s.phase ≠ .scanning → s.presented = none →
    s.inputs = cs.flatMap Command.inputs →
    ∃ k, runSteps k s = .next (runCommands cs { s with inputs := [] })

/-- R76, R136: the same command sequence on the byte-serial port, one beat a command, reaches the same state. -/
def Obligations.PortBeatsCarryOutCommands : Prop :=
  ∀ (cs : List Command) (s : State), s.Inv → s.phase ≠ .scanning → s.presented = none →
    s.inputs = cs.flatMap Command.portInputs →
    runSteps s.inputs.length s = .next (runCommands cs { s with inputs := [] })

/-- R118: bytes at none of whose positions a valid header stands, then one complete frame: a `SKIP` or `REJECT` at
each of them, one `ACCEPT`, and the loop halts with a count of 1. A sequence with no byte `0xFF` is enough. -/
def Obligations.ResyncAfterGarbage : Prop :=
  ∀ (causeW : Nat) (garbage frame : List Byte) (hdr : Hdr), memRead4 frame 0 = some hdr → classify hdr = .valid frame.length →
    ((∀ p h, p < garbage.length → memRead4 (garbage ++ frame) p = some h → ∀ len, classify h ≠ .valid len) →
      (∃ before, scanTrace (append (garbage ++ frame) (State.resetAt causeW)) =
          before ++ [(garbage.length, .accept frame.length), (garbage.length + frame.length, .exhaust)] ∧
        before.length = garbage.length ∧ ∀ e ∈ before, e.2 = .skip ∨ e.2 = .reject) ∧
      (scanLoop (append (garbage ++ frame) (State.resetAt causeW))).frameCount = 1 ∧
      (runCommands (whole (garbage ++ frame)) (State.resetAt causeW)).output = some (.count 1)) ∧
    ((∀ b ∈ garbage, b ≠ 0xFF#8) →
      ∀ p h, p < garbage.length → memRead4 (garbage ++ frame) p = some h → ∀ len, classify h ≠ .valid len)

/-- R119: one complete frame in two chunks, cut anywhere: the first loop halts at once, by `EXHAUST` below four bytes
and by `SUSPEND` else, with nothing counted or dropped; after the second chunk the frame is counted. -/
def Obligations.BoundarySplitCountsOnce : Prop :=
  ∀ (causeW : Nat) (frame : List Byte) (hdr : Hdr) (k : Nat), memRead4 frame 0 = some hdr → classify hdr = .valid frame.length →
    1 ≤ k → k < frame.length →
    scanTrace (append (frame.take k) (State.resetAt causeW)) = [(0, if k < 4 then .exhaust else .suspend frame.length)] ∧
    (chunkCommand (frame.take k) (State.resetAt causeW)).pending = frame.take k ∧
    (chunkCommand (frame.take k) (State.resetAt causeW)).frameCount = 0 ∧
    chunkCommand (frame.drop k) (chunkCommand (frame.take k) (State.resetAt causeW)) =
      { State.resetAt causeW with nonEmpty := true, frameCount := 1, consumed := frame.length } ∧
    (runCommands (stream [frame.take k, frame.drop k]) (State.resetAt causeW)).output = some (.count 1)

/-- R180: after any command sequence from reset, the window-and-skip machine of R179 corresponds to the normative one;
in `IDLE` its window or its skip count accounts for `pending`, and every other element is equal. -/
def Obligations.WindowMachineCorresponds : Prop :=
  ∀ {causeW : Nat} (cs : List (Command causeW)), (Window.run cs Window.reset).Corresponds (runCommands cs (State.resetAt causeW))
end

