-- ==== Sys2Proof/Laws/Codec.lean ====
section
/-! SUPPORT. The codec's bit arithmetic as arithmetic of naturals: what the fields of a header word are, what a word
assembled from fields is worth, and how the header decoder divides the words. -/

namespace Sys2Proof

/-- The value of a concatenation (R11). -/
theorem toNat_append_eq {m n : Nat} (x : BitVec m) (y : BitVec n) :
    (x ++ y).toNat = x.toNat * 2 ^ n + y.toNat := by
  rw [BitVec.toNat_append, ← Nat.shiftLeft_add_eq_or_of_lt y.isLt, Nat.shiftLeft_eq]

/-- The value of a field. -/
theorem toNat_field {w : Nat} (x : BitVec w) (start len : Nat) :
    (x.extractLsb' start len).toNat = x.toNat / 2 ^ start % 2 ^ len := by
  rw [BitVec.extractLsb'_toNat, Nat.shiftRight_eq_div_pow]

theorem hdrSync_toNat (hdr : Hdr) : (hdrSync hdr).toNat = hdr.toNat / 2 ^ 21 % 2 ^ 11 := toNat_field ..
theorem hdrIgn_toNat (hdr : Hdr) : (hdrIgn hdr).toNat = hdr.toNat / 2 ^ 16 % 2 ^ 5 := toNat_field ..
theorem hdrBr_toNat (hdr : Hdr) : (hdrBr hdr).toNat = hdr.toNat / 2 ^ 12 % 2 ^ 4 := toNat_field ..
theorem hdrSr_toNat (hdr : Hdr) : (hdrSr hdr).toNat = hdr.toNat / 2 ^ 10 % 2 ^ 2 := toNat_field ..
theorem hdrPad_toNat (hdr : Hdr) : (hdrPad hdr).toNat = hdr.toNat / 2 ^ 9 % 2 ^ 1 := toNat_field ..
theorem hdrLow_toNat (hdr : Hdr) : (hdrLow hdr).toNat = hdr.toNat / 2 ^ 0 % 2 ^ 9 := toNat_field ..

/-- The value of a header word with a matching sync. -/
theorem syncedWord_toNat (ign : BitVec 5) (br : BitVec 4) (sr : BitVec 2) (pad : BitVec 1) (low : BitVec 9) :
    (syncedWord ign br sr pad low).toNat =
      2047 * 2 ^ 21 + ign.toNat * 2 ^ 16 + br.toNat * 2 ^ 12 + sr.toNat * 2 ^ 10 + pad.toNat * 2 ^ 9 + low.toNat := by
  simp only [syncedWord, toNat_append_eq, BitVec.toNat_ofNat]
  omega

section
variable (ign : BitVec 5) (br : BitVec 4) (sr : BitVec 2) (pad : BitVec 1) (low : BitVec 9)

@[simp] theorem hdrSync_syncedWord : hdrSync (syncedWord ign br sr pad low) = 0x7FF#11 := by
  apply BitVec.eq_of_toNat_eq
  rw [hdrSync_toNat, syncedWord_toNat]
  have := ign.isLt; have := br.isLt; have := sr.isLt; have := pad.isLt; have := low.isLt
  simp only [BitVec.toNat_ofNat]
  omega

@[simp] theorem hdrIgn_syncedWord : hdrIgn (syncedWord ign br sr pad low) = ign := by
  apply BitVec.eq_of_toNat_eq
  rw [hdrIgn_toNat, syncedWord_toNat]
  have := ign.isLt; have := br.isLt; have := sr.isLt; have := pad.isLt; have := low.isLt
  omega

@[simp] theorem hdrBr_syncedWord : hdrBr (syncedWord ign br sr pad low) = br := by
  apply BitVec.eq_of_toNat_eq
  rw [hdrBr_toNat, syncedWord_toNat]
  have := ign.isLt; have := br.isLt; have := sr.isLt; have := pad.isLt; have := low.isLt
  omega

@[simp] theorem hdrSr_syncedWord : hdrSr (syncedWord ign br sr pad low) = sr := by
  apply BitVec.eq_of_toNat_eq
  rw [hdrSr_toNat, syncedWord_toNat]
  have := ign.isLt; have := br.isLt; have := sr.isLt; have := pad.isLt; have := low.isLt
  omega

@[simp] theorem hdrPad_syncedWord : hdrPad (syncedWord ign br sr pad low) = pad := by
  apply BitVec.eq_of_toNat_eq
  rw [hdrPad_toNat, syncedWord_toNat]
  have := ign.isLt; have := br.isLt; have := sr.isLt; have := pad.isLt; have := low.isLt
  omega

@[simp] theorem hdrLow_syncedWord : hdrLow (syncedWord ign br sr pad low) = low := by
  apply BitVec.eq_of_toNat_eq
  rw [hdrLow_toNat, syncedWord_toNat]
  have := ign.isLt; have := br.isLt; have := sr.isLt; have := pad.isLt; have := low.isLt
  omega

end

/-- Bit `k` of a word, as arithmetic. -/
theorem getLsbD_false_iff {w : Nat} (x : BitVec w) (k : Nat) :
    x.getLsbD k = false ↔ x.toNat / 2 ^ k % 2 = 0 := by
  rw [BitVec.getLsbD, Nat.testBit_eq_decide_div_mod_eq]
  simp

/-- A header is its fields when its sync matches. -/
theorem syncedWord_fields (hdr : Hdr) (h : hdrSync hdr = 0x7FF#11) :
    syncedWord (hdrIgn hdr) (hdrBr hdr) (hdrSr hdr) (hdrPad hdr) (hdrLow hdr) = hdr := by
  apply BitVec.eq_of_toNat_eq
  have h' := congrArg BitVec.toNat h
  rw [hdrSync_toNat] at h'
  rw [syncedWord_toNat, hdrIgn_toNat, hdrBr_toNat, hdrSr_toNat, hdrPad_toNat, hdrLow_toNat]
  simp only [BitVec.toNat_ofNat] at h'
  have := hdr.isLt
  omega

/-- With a matching sync the header decoder goes by the fields. -/
theorem decodeHeader_of_sync (hdr : Hdr) (h : hdrSync hdr = 0x7FF#11) :
    decodeHeader hdr = decodeSynced (hdrIgn hdr) (hdrBr hdr) (hdrSr hdr) (hdrPad hdr) (hdrLow hdr) := by
  have h' := congrArg BitVec.toNat h
  rw [hdrSync_toNat] at h'
  simp only [BitVec.toNat_ofNat] at h'
  have := hdr.isLt
  simp only [decodeHeader, getLsbD_false_iff]
  repeat rw [if_neg (by omega)]

/-- The header assembled from the bytes that carry it is that header (R42). -/
theorem hdrOfBytes_bytesOfHdr (hdr : Hdr) :
    hdrOfBytes (hdr.extractLsb' 24 8) (hdr.extractLsb' 16 8) (hdr.extractLsb' 8 8) (hdr.extractLsb' 0 8) = hdr := by
  apply BitVec.eq_of_toNat_eq
  simp only [hdrOfBytes, toNat_append_eq, toNat_field]
  have := hdr.isLt
  omega

/-- Reading back a laid-out header gives the header's class. -/
theorem decodeBytes_bytesOfHdr (hdr : Hdr) : decodeBytes (bytesOfHdr hdr) = .ok (decodeHeader hdr) := by
  simp [decodeBytes, bytesOfHdr, decode, hdrOfBytes_bytesOfHdr]

end Sys2Proof
end

