-- ==== Sys2Proof/Laws/Decoder.lean ====
section
/-! SUPPORT. The header decoder: what `DECODE` answers over its three fields, and the reads of the byte sequence. -/

namespace Sys2Proof.Machine

/-- Every length the decoder gives is between 96 and 1441 (R93), over the 128 field values. -/
theorem decodeFields_bounds : ∀ (br : BitVec 4) (sr : BitVec 2) (pad : BitVec 1),
    (match decodeFields br sr pad with
    | .rejected => true
    | .frameLength len => decide (96 ≤ len ∧ len ≤ 1441)) = true := by
  decide

/-- The rejected fields are those with a reserved index (R85). -/
theorem decodeFields_rejected_iff : ∀ (br : BitVec 4) (sr : BitVec 2) (pad : BitVec 1),
    decodeFields br sr pad = .rejected ↔ br = 0#4 ∨ br = 15#4 ∨ sr = 3#2 := by
  decide

/-- A header the decoder gives a length has one in range. -/
theorem decodeHdr_length {hdr : Hdr} {len : Nat} (h : decodeHdr hdr = .frameLength len) : 96 ≤ len ∧ len ≤ 1441 := by
  have b := decodeFields_bounds (hdrBr hdr) (hdrSr hdr) (hdrPad hdr)
  rw [decodeHdr] at h
  rw [h] at b
  simpa using b

/-- A valid header's length is in range. -/
theorem classify_valid_length {hdr : Hdr} {len : Nat} (h : classify hdr = .valid len) : 96 ≤ len ∧ len ≤ 1441 := by
  unfold classify at h
  split at h
  · split at h
    · cases h
    · rename_i l hd
      cases h
      exact decodeHdr_length hd
  · cases h

/-- `CLASSIFY` case by case (R88). -/
theorem classify_nosync_iff (hdr : Hdr) : classify hdr = .nosync ↔ syncMatch hdr = false := by
  unfold classify
  split
  · split <;> simp_all
  · simp_all

theorem classify_reject_iff (hdr : Hdr) : classify hdr = .reject ↔ syncMatch hdr = true ∧ decodeHdr hdr = .rejected := by
  unfold classify
  split
  · split <;> simp_all
  · simp_all

theorem classify_valid_iff (hdr : Hdr) (len : Nat) :
    classify hdr = .valid len ↔ syncMatch hdr = true ∧ decodeHdr hdr = .frameLength len := by
  unfold classify
  split
  · split <;> simp_all
  · simp_all

/-- The header read succeeds exactly when its four bytes are there (R43). -/
theorem memRead4_isSome_iff (bytes : List Byte) (addr : Nat) :
    (∃ hdr, memRead4 bytes addr = some hdr) ↔ addr + 4 ≤ bytes.length := by
  unfold memRead4
  have hl : (bytes.drop addr).length = bytes.length - addr := List.length_drop
  split
  · rename_i b0 b1 b2 b3 r hd
    rw [hd] at hl
    simp only [List.length_cons] at hl
    simp only [Option.some.injEq, exists_eq', true_iff]
    omega
  · rename_i hn
    simp only [reduceCtorEq, exists_false, false_iff]
    intro hle
    match hd : bytes.drop addr with
    | [] | [_] | [_, _] | [_, _, _] =>
      rw [hd] at hl
      simp only [List.length_cons, List.length_nil] at hl
      omega
    | b0 :: b1 :: b2 :: b3 :: r => exact hn b0 b1 b2 b3 r hd

/-- The header read does not see bytes appended behind it (R116). -/
theorem memRead4_append {bytes : List Byte} {addr : Nat} {hdr : Hdr} (more : List Byte)
    (h : memRead4 bytes addr = some hdr) : memRead4 (bytes ++ more) addr = some hdr := by
  have hle : addr + 4 ≤ bytes.length := (memRead4_isSome_iff bytes addr).mp ⟨hdr, h⟩
  unfold memRead4 at h ⊢
  rw [List.drop_append_of_le_length (by omega)]
  split at h
  · rename_i b0 b1 b2 b3 r hd
    rw [hd]
    exact h
  · cases h

/-- The header read sees only what stands from its address on. -/
theorem memRead4_drop (bytes : List Byte) (dropped addr : Nat) :
    memRead4 (bytes.drop dropped) addr = memRead4 bytes (dropped + addr) := by
  simp only [memRead4, List.drop_drop]

/-- The fetch decodes the header that is read (R59). -/
theorem decodeBytes_drop {bytes : List Byte} {addr : Nat} {hdr : Hdr} (h : memRead4 bytes addr = some hdr) :
    decodeBytes (bytes.drop addr) = .ok (decodeHeader hdr) := by
  unfold memRead4 at h
  split at h
  · rename_i hd
    rw [hd]
    cases h
    rfl
  · cases h

/-- With fewer than four bytes the decoder rejects by name. -/
theorem decodeBytes_short {bytes : List Byte} (h : bytes.length < 4) : decodeBytes bytes = .error .headerTooShort := by
  match bytes with
  | [] | [_] | [_, _] | [_, _, _] => rfl
  | _ :: _ :: _ :: _ :: _ => simp only [List.length_cons] at h; omega

end Sys2Proof.Machine
end

