-- ==== Sys2Proof/Laws/State.lean ====
section
/-! SUPPORT. One lemma per field per update of the state: what each named operation makes of each element of R20, so
that later proofs do not unfold a record update. -/

namespace Sys2Proof.Machine

variable {causeW : Nat}

/-! `append` -/

@[simp] theorem append_pending (chunk : List Byte) (s : State causeW) : (append chunk s).pending = s.pending ++ chunk := rfl
@[simp] theorem append_cursor (chunk : List Byte) (s : State causeW) : (append chunk s).cursor = s.cursor := rfl
@[simp] theorem append_frameCount (chunk : List Byte) (s : State causeW) : (append chunk s).frameCount = s.frameCount := rfl
@[simp] theorem append_phase (chunk : List Byte) (s : State causeW) : (append chunk s).phase = s.phase := rfl
@[simp] theorem append_result (chunk : List Byte) (s : State causeW) : (append chunk s).result = s.result := rfl
@[simp] theorem append_nonEmpty (chunk : List Byte) (s : State causeW) : (append chunk s).nonEmpty = nonEmptyAfter s.nonEmpty chunk := rfl
@[simp] theorem append_failCause (chunk : List Byte) (s : State causeW) : (append chunk s).failCause = s.failCause := rfl
@[simp] theorem append_consumed (chunk : List Byte) (s : State causeW) : (append chunk s).consumed = s.consumed := rfl
@[simp] theorem append_inputs (chunk : List Byte) (s : State causeW) : (append chunk s).inputs = s.inputs := rfl
@[simp] theorem append_presented (chunk : List Byte) (s : State causeW) : (append chunk s).presented = s.presented := rfl

/-! `compact` -/

@[simp] theorem compact_pending (s : State causeW) : (compact s).pending = s.pending.drop s.cursor := rfl
@[simp] theorem compact_cursor (s : State causeW) : (compact s).cursor = 0 := rfl
@[simp] theorem compact_frameCount (s : State causeW) : (compact s).frameCount = s.frameCount := rfl
@[simp] theorem compact_phase (s : State causeW) : (compact s).phase = s.phase := rfl
@[simp] theorem compact_result (s : State causeW) : (compact s).result = s.result := rfl
@[simp] theorem compact_nonEmpty (s : State causeW) : (compact s).nonEmpty = s.nonEmpty := rfl
@[simp] theorem compact_failCause (s : State causeW) : (compact s).failCause = s.failCause := rfl
@[simp] theorem compact_consumed (s : State causeW) : (compact s).consumed = s.consumed + s.cursor := rfl
@[simp] theorem compact_inputs (s : State causeW) : (compact s).inputs = s.inputs := rfl
@[simp] theorem compact_presented (s : State causeW) : (compact s).presented = s.presented := rfl

/-! `sAccept` -/

@[simp] theorem sAccept_pending (len : Nat) (s : State causeW) : (sAccept len s).pending = s.pending := rfl
@[simp] theorem sAccept_cursor (len : Nat) (s : State causeW) : (sAccept len s).cursor = s.cursor + len := rfl
@[simp] theorem sAccept_frameCount (len : Nat) (s : State causeW) : (sAccept len s).frameCount = s.frameCount + 1 := rfl
@[simp] theorem sAccept_phase (len : Nat) (s : State causeW) : (sAccept len s).phase = s.phase := rfl
@[simp] theorem sAccept_result (len : Nat) (s : State causeW) : (sAccept len s).result = s.result := rfl
@[simp] theorem sAccept_nonEmpty (len : Nat) (s : State causeW) : (sAccept len s).nonEmpty = s.nonEmpty := rfl
@[simp] theorem sAccept_failCause (len : Nat) (s : State causeW) : (sAccept len s).failCause = s.failCause := rfl
@[simp] theorem sAccept_consumed (len : Nat) (s : State causeW) : (sAccept len s).consumed = s.consumed := rfl
@[simp] theorem sAccept_inputs (len : Nat) (s : State causeW) : (sAccept len s).inputs = s.inputs := rfl
@[simp] theorem sAccept_presented (len : Nat) (s : State causeW) : (sAccept len s).presented = s.presented := rfl

/-! `terminate` -/

@[simp] theorem terminate_pending (r : Result) (s : State causeW) : (terminate r s).pending = [] := rfl
@[simp] theorem terminate_cursor (r : Result) (s : State causeW) : (terminate r s).cursor = s.cursor := rfl
@[simp] theorem terminate_frameCount (r : Result) (s : State causeW) : (terminate r s).frameCount = s.frameCount := rfl
@[simp] theorem terminate_phase (r : Result) (s : State causeW) : (terminate r s).phase = .done := rfl
@[simp] theorem terminate_result (r : Result) (s : State causeW) : (terminate r s).result = r := rfl
@[simp] theorem terminate_nonEmpty (r : Result) (s : State causeW) : (terminate r s).nonEmpty = s.nonEmpty := rfl
@[simp] theorem terminate_failCause (r : Result) (s : State causeW) : (terminate r s).failCause = s.failCause := rfl
@[simp] theorem terminate_consumed (r : Result) (s : State causeW) : (terminate r s).consumed = s.consumed + s.pending.length := rfl
@[simp] theorem terminate_inputs (r : Result) (s : State causeW) : (terminate r s).inputs = s.inputs := rfl
@[simp] theorem terminate_presented (r : Result) (s : State causeW) : (terminate r s).presented = s.presented := rfl

/-! `restart` -/

@[simp] theorem restart_pending (s : State causeW) : (restart s).pending = [] := rfl
@[simp] theorem restart_cursor (s : State causeW) : (restart s).cursor = 0 := rfl
@[simp] theorem restart_frameCount (s : State causeW) : (restart s).frameCount = 0 := rfl
@[simp] theorem restart_phase (s : State causeW) : (restart s).phase = .idle := rfl
@[simp] theorem restart_result (s : State causeW) : (restart s).result = .none := rfl
@[simp] theorem restart_nonEmpty (s : State causeW) : (restart s).nonEmpty = false := rfl
@[simp] theorem restart_failCause (s : State causeW) : (restart s).failCause = 0#causeW := rfl
@[simp] theorem restart_consumed (s : State causeW) : (restart s).consumed = 0 := rfl
@[simp] theorem restart_inputs (s : State causeW) : (restart s).inputs = s.inputs := rfl
@[simp] theorem restart_presented (s : State causeW) : (restart s).presented = s.presented := rfl

/-! `endScan` -/

@[simp] theorem endScan_pending (s : State causeW) : (endScan s).pending = s.pending.drop s.cursor := rfl
@[simp] theorem endScan_cursor (s : State causeW) : (endScan s).cursor = 0 := rfl
@[simp] theorem endScan_frameCount (s : State causeW) : (endScan s).frameCount = s.frameCount := rfl
@[simp] theorem endScan_phase (s : State causeW) : (endScan s).phase = .idle := rfl
@[simp] theorem endScan_result (s : State causeW) : (endScan s).result = s.result := rfl
@[simp] theorem endScan_nonEmpty (s : State causeW) : (endScan s).nonEmpty = s.nonEmpty := rfl
@[simp] theorem endScan_failCause (s : State causeW) : (endScan s).failCause = s.failCause := rfl
@[simp] theorem endScan_consumed (s : State causeW) : (endScan s).consumed = s.consumed + s.cursor := rfl
@[simp] theorem endScan_inputs (s : State causeW) : (endScan s).inputs = s.inputs := rfl
@[simp] theorem endScan_presented (s : State causeW) : (endScan s).presented = s.presented := rfl

@[simp] theorem resetAt_pending : (State.resetAt causeW).pending = [] := rfl
@[simp] theorem resetAt_cursor : (State.resetAt causeW).cursor = 0 := rfl
@[simp] theorem resetAt_frameCount : (State.resetAt causeW).frameCount = 0 := rfl
@[simp] theorem resetAt_phase : (State.resetAt causeW).phase = .idle := rfl
@[simp] theorem resetAt_result : (State.resetAt causeW).result = .none := rfl
@[simp] theorem resetAt_nonEmpty : (State.resetAt causeW).nonEmpty = false := rfl
@[simp] theorem resetAt_failCause : (State.resetAt causeW).failCause = 0#causeW := rfl
@[simp] theorem resetAt_consumed : (State.resetAt causeW).consumed = 0 := rfl
@[simp] theorem resetAt_inputs : (State.resetAt causeW).inputs = [] := rfl
@[simp] theorem resetAt_presented : (State.resetAt causeW).presented = none := rfl

@[simp] theorem reset_pending : State.reset.pending = [] := rfl
@[simp] theorem reset_cursor : State.reset.cursor = 0 := rfl
@[simp] theorem reset_frameCount : State.reset.frameCount = 0 := rfl
@[simp] theorem reset_phase : State.reset.phase = .idle := rfl
@[simp] theorem reset_result : State.reset.result = .none := rfl
@[simp] theorem reset_nonEmpty : State.reset.nonEmpty = false := rfl
@[simp] theorem reset_failCause : State.reset.failCause = 0#8 := rfl
@[simp] theorem reset_consumed : State.reset.consumed = 0 := rfl
@[simp] theorem reset_inputs : State.reset.inputs = [] := rfl
@[simp] theorem reset_presented : State.reset.presented = none := rfl

@[simp] theorem sExhaust_eq (s : State causeW) : sExhaust s = s := rfl
@[simp] theorem sSuspend_eq (s : State causeW) : sSuspend s = s := rfl

/-- `S_REJECT` has the state change of `S_SKIP` (R102). -/
theorem sReject_eq_sSkip (s : State causeW) : sReject s = sSkip s := rfl

/-- Where the guard holds, `S_SKIP` is the advance of one byte. -/
theorem sSkip_of_guard (s : State causeW) (h : loopGuard s = true) : sSkip s = { s with cursor := s.cursor + 1 } := by
  simp [sSkip, h, rejectStep]

/-- Where the guard fails, `S_SKIP` changes nothing. -/
theorem sSkip_of_not_guard (s : State causeW) (h : loopGuard s = false) : sSkip s = s := by
  simp [sSkip, h]

@[simp] theorem sSkip_pending (s : State causeW) : (sSkip s).pending = s.pending := by
  unfold sSkip; split <;> rfl
@[simp] theorem sSkip_frameCount (s : State causeW) : (sSkip s).frameCount = s.frameCount := by
  unfold sSkip; split <;> rfl
@[simp] theorem sSkip_phase (s : State causeW) : (sSkip s).phase = s.phase := by
  unfold sSkip; split <;> rfl
@[simp] theorem sSkip_result (s : State causeW) : (sSkip s).result = s.result := by
  unfold sSkip; split <;> rfl
@[simp] theorem sSkip_nonEmpty (s : State causeW) : (sSkip s).nonEmpty = s.nonEmpty := by
  unfold sSkip; split <;> rfl
@[simp] theorem sSkip_failCause (s : State causeW) : (sSkip s).failCause = s.failCause := by
  unfold sSkip; split <;> rfl
@[simp] theorem sSkip_consumed (s : State causeW) : (sSkip s).consumed = s.consumed := by
  unfold sSkip; split <;> rfl
@[simp] theorem sSkip_inputs (s : State causeW) : (sSkip s).inputs = s.inputs := by
  unfold sSkip; split <;> rfl
@[simp] theorem sSkip_presented (s : State causeW) : (sSkip s).presented = s.presented := by
  unfold sSkip; split <;> rfl
@[simp] theorem sReject_pending (s : State causeW) : (sReject s).pending = s.pending := by
  unfold sReject; split <;> rfl
@[simp] theorem sReject_frameCount (s : State causeW) : (sReject s).frameCount = s.frameCount := by
  unfold sReject; split <;> rfl
@[simp] theorem sReject_phase (s : State causeW) : (sReject s).phase = s.phase := by
  unfold sReject; split <;> rfl
@[simp] theorem sReject_result (s : State causeW) : (sReject s).result = s.result := by
  unfold sReject; split <;> rfl
@[simp] theorem sReject_nonEmpty (s : State causeW) : (sReject s).nonEmpty = s.nonEmpty := by
  unfold sReject; split <;> rfl
@[simp] theorem sReject_failCause (s : State causeW) : (sReject s).failCause = s.failCause := by
  unfold sReject; split <;> rfl
@[simp] theorem sReject_consumed (s : State causeW) : (sReject s).consumed = s.consumed := by
  unfold sReject; split <;> rfl
@[simp] theorem sReject_inputs (s : State causeW) : (sReject s).inputs = s.inputs := by
  unfold sReject; split <;> rfl
@[simp] theorem sReject_presented (s : State causeW) : (sReject s).presented = s.presented := by
  unfold sReject; split <;> rfl
@[simp] theorem sValid_pending (len : Nat) (s : State causeW) : (sValid len s).pending = s.pending := by
  unfold sValid; split <;> (try split) <;> rfl
@[simp] theorem sValid_phase (len : Nat) (s : State causeW) : (sValid len s).phase = s.phase := by
  unfold sValid; split <;> (try split) <;> rfl
@[simp] theorem sValid_result (len : Nat) (s : State causeW) : (sValid len s).result = s.result := by
  unfold sValid; split <;> (try split) <;> rfl
@[simp] theorem sValid_nonEmpty (len : Nat) (s : State causeW) : (sValid len s).nonEmpty = s.nonEmpty := by
  unfold sValid; split <;> (try split) <;> rfl
@[simp] theorem sValid_failCause (len : Nat) (s : State causeW) : (sValid len s).failCause = s.failCause := by
  unfold sValid; split <;> (try split) <;> rfl
@[simp] theorem sValid_consumed (len : Nat) (s : State causeW) : (sValid len s).consumed = s.consumed := by
  unfold sValid; split <;> (try split) <;> rfl
@[simp] theorem sValid_inputs (len : Nat) (s : State causeW) : (sValid len s).inputs = s.inputs := by
  unfold sValid; split <;> (try split) <;> rfl
@[simp] theorem sValid_presented (len : Nat) (s : State causeW) : (sValid len s).presented = s.presented := by
  unfold sValid; split <;> (try split) <;> rfl

/-- What `raise` leaves alone in every kind (R152): the cursor, the counter, the flag and the host's side. -/
theorem raise_frame (kind : FailKind causeW) (s : State causeW) :
    (raise kind s).cursor = s.cursor ∧ (raise kind s).frameCount = s.frameCount ∧
      (raise kind s).nonEmpty = s.nonEmpty ∧ (raise kind s).inputs = s.inputs ∧
      (raise kind s).presented = s.presented := by
  cases kind <;> simp [raise]

/-- What `raise` does in every kind (R152): everything pending is discarded and the scan is over. -/
theorem raise_effect (kind : FailKind causeW) (s : State causeW) :
    (raise kind s).pending = [] ∧ (raise kind s).consumed = s.consumed + s.pending.length ∧
      (raise kind s).phase = .done := by
  cases kind <;> simp [raise]

end Sys2Proof.Machine
end

