-- ==== Sys2Proof/Laws/Scan.lean ====
section
/-! SUPPORT. What a scan step can do, said once (`scanStep_cases`), and what the loop inherits from it. -/

namespace Sys2Proof.Machine

variable {causeW : Nat}

/-- The guard, as arithmetic (R99). -/
theorem loopGuard_iff (s : State causeW) : loopGuard s = true ↔ s.cursor + 4 ≤ s.pending.length := by
  rw [loopGuard, decide_eq_true_iff, loopFloor]

/-- A fetched header is the one read at the cursor, and its four bytes are there. -/
theorem hdrFetch_eq_some_iff (s : State causeW) (hdr : Hdr) :
    hdrFetch s = some hdr ↔ memRead4 s.pending s.cursor = some hdr := by
  unfold hdrFetch
  split
  · rfl
  · rename_i hg
    rw [loopGuard_iff] at hg
    constructor
    · intro h; cases h
    · intro h
      exact absurd ((memRead4_isSome_iff s.pending s.cursor).mp ⟨hdr, h⟩) hg

/-- No header is fetched exactly below the floor (R105). -/
theorem hdrFetch_eq_none_iff (s : State causeW) : hdrFetch s = none ↔ s.pending.length < s.cursor + 4 := by
  rw [← Nat.not_le, ← memRead4_isSome_iff]
  constructor
  · rintro h ⟨hdr, hr⟩
    rw [(hdrFetch_eq_some_iff s hdr).mpr hr] at h
    cases h
  · intro h
    match hf : hdrFetch s with
    | none => rfl
    | some hdr => exact absurd ⟨hdr, (hdrFetch_eq_some_iff s hdr).mp hf⟩ h

/-- The inversion of the scan step (R106): the five outcomes, each with its condition and its next state. -/
theorem scanStep_cases (s : State causeW) :
    (s.pending.length < s.cursor + 4 ∧ scanStep s = (.exhaust, s)) ∨
    ∃ hdr, memRead4 s.pending s.cursor = some hdr ∧ s.cursor + 4 ≤ s.pending.length ∧
      ((classify hdr = .nosync ∧ scanStep s = (.skip, { s with cursor := s.cursor + 1 })) ∨
       (classify hdr = .reject ∧ scanStep s = (.reject, { s with cursor := s.cursor + 1 })) ∨
       (∃ len, classify hdr = .valid len ∧ 96 ≤ len ∧ s.cursor + len ≤ s.pending.length ∧
          scanStep s = (.accept len, sAccept len s)) ∨
       (∃ len, classify hdr = .valid len ∧ len ≤ 1441 ∧ s.pending.length < s.cursor + len ∧
          scanStep s = (.suspend len, s))) := by
  match hf : hdrFetch s with
  | none =>
    left
    exact ⟨(hdrFetch_eq_none_iff s).mp hf, by simp [scanStep, hf]⟩
  | some hdr =>
    right
    have hr := (hdrFetch_eq_some_iff s hdr).mp hf
    have hle := (memRead4_isSome_iff s.pending s.cursor).mp ⟨hdr, hr⟩
    have hg := (loopGuard_iff s).mpr hle
    refine ⟨hdr, hr, hle, ?_⟩
    match hc : classify hdr with
    | .nosync =>
      have hs := (classify_nosync_iff hdr).mp hc
      left
      exact ⟨rfl, by simp [scanStep, hf, hs, sSkip_of_guard s hg]⟩
    | .reject =>
      have hs := (classify_reject_iff hdr).mp hc
      right; left
      exact ⟨rfl, by simp [scanStep, hf, hs.1, hs.2, sReject_eq_sSkip, sSkip_of_guard s hg]⟩
    | .valid len =>
      have hs := (classify_valid_iff hdr len).mp hc
      have hb := classify_valid_length hc
      right; right
      by_cases hfit : s.cursor + len ≤ s.pending.length
      · left
        exact ⟨len, rfl, hb.1, hfit, by simp [scanStep, hf, hs.1, hs.2, hfit]⟩
      · right
        exact ⟨len, rfl, hb.2, by omega, by simp [scanStep, hf, hs.1, hs.2, hfit]⟩

/-- The frame of a scan step (R32, R46): it changes only the cursor and the frame counter. -/
theorem scanStep_frame (s : State causeW) :
    (scanStep s).2.pending = s.pending ∧ (scanStep s).2.phase = s.phase ∧ (scanStep s).2.result = s.result ∧
      (scanStep s).2.nonEmpty = s.nonEmpty ∧ (scanStep s).2.failCause = s.failCause ∧
      (scanStep s).2.consumed = s.consumed ∧ (scanStep s).2.inputs = s.inputs ∧
      (scanStep s).2.presented = s.presented := by
  obtain ⟨_, h⟩ | ⟨hdr, _, _, ⟨_, h⟩ | ⟨_, h⟩ | ⟨len, _, _, _, h⟩ | ⟨len, _, _, _, h⟩⟩ := scanStep_cases s <;> simp [h]

/-- A halting outcome changes no state (R104, R105). -/
theorem scanStep_of_halts (s : State causeW) (h : (scanStep s).1.halts = true) : (scanStep s).2 = s := by
  obtain ⟨_, e⟩ | ⟨hdr, _, _, ⟨_, e⟩ | ⟨_, e⟩ | ⟨len, _, _, _, e⟩ | ⟨len, _, _, _, e⟩⟩ := scanStep_cases s <;>
    rw [e] at h ⊢ <;> simp [StepOutcome.halts] at h ⊢

/-- A continuing outcome moves the cursor on and keeps it inside `pending` (R108). -/
theorem scanStep_progress (s : State causeW) (h : (scanStep s).1.halts = false) :
    s.cursor < (scanStep s).2.cursor ∧ (scanStep s).2.cursor ≤ s.pending.length := by
  obtain ⟨_, e⟩ | ⟨hdr, _, _, ⟨_, e⟩ | ⟨_, e⟩ | ⟨len, _, _, _, e⟩ | ⟨len, _, _, _, e⟩⟩ := scanStep_cases s <;>
    rw [e] at h ⊢ <;> simp [StepOutcome.halts] at h ⊢ <;> omega

/-- The scan step does not look at what the host still has to present. -/
theorem scanStep_with_inputs (s : State causeW) (rest : List Input) :
    scanStep { s with inputs := rest } = ((scanStep s).1, { (scanStep s).2 with inputs := rest }) := by
  have hf : hdrFetch { s with inputs := rest } = hdrFetch s := rfl
  have hg : loopGuard { s with inputs := rest } = loopGuard s := rfl
  unfold scanStep
  rw [hf]
  split
  · rfl
  · split
    · split
      · simp only [sReject, hg]; split <;> rfl
      · split <;> rfl
    · simp only [sSkip, hg]; split <;> rfl

/-- One iteration of the loop. -/
theorem scanIterate_succ (fuel : Nat) (s : State causeW) :
    scanIterate (fuel + 1) s = if (scanStep s).1.halts then s else scanIterate fuel (scanStep s).2 := by
  rw [scanIterate]
  split
  · rename_i h; exact scanStep_of_halts s h
  · rfl

/-- With fuel for every byte ahead, the loop ends in a halting scan step (R108). -/
theorem scanIterate_halts (fuel : Nat) (s : State causeW) (h : s.pending.length - s.cursor < fuel) :
    (scanStep (scanIterate fuel s)).1.halts = true := by
  induction fuel generalizing s with
  | zero => omega
  | succ k ih =>
    rw [scanIterate_succ]
    split
    · assumption
    · rename_i hc
      have hp := scanStep_progress s (by simpa using hc)
      apply ih
      rw [(scanStep_frame s).1]
      omega

/-- More fuel than bytes ahead makes no difference. -/
theorem scanIterate_fuel (fuel : Nat) (s : State causeW) (h : s.pending.length - s.cursor < fuel) :
    scanIterate fuel s = scanLoop s := by
  suffices H : ∀ (n m : Nat) (s : State causeW), s.pending.length - s.cursor < n → s.pending.length - s.cursor < m →
      scanIterate n s = scanIterate m s from H _ _ s h (by omega)
  intro n
  induction n with
  | zero => intro m s hn; omega
  | succ n ih =>
    intro m s _ hm
    match m with
    | 0 => omega
    | m + 1 =>
      rw [scanIterate_succ, scanIterate_succ]
      split
      · rfl
      · rename_i hc
        have hp := scanStep_progress s (by simpa using hc)
        apply ih <;> rw [(scanStep_frame s).1] <;> omega

/-- `SCAN_LOOP` unrolled once: a halting step ends it, a continuing one is followed by the rest. -/
theorem scanLoop_unroll (s : State causeW) :
    scanLoop s = if (scanStep s).1.halts then s else scanLoop (scanStep s).2 := by
  rw [scanLoop, scanIterate_succ]
  split
  · rfl
  · rename_i hc
    have hp := scanStep_progress s (by simpa using hc)
    apply scanIterate_fuel
    rw [(scanStep_frame s).1]
    omega

/-- `SCAN_LOOP` ends where the scan step halts. -/
theorem scanLoop_halts (s : State causeW) : (scanStep (scanLoop s)).1.halts = true := scanIterate_halts _ s (by omega)

/-- Induction along the loop: what holds where it halts and is kept back through each continuing step holds at its
start. -/
theorem scanLoop_induction {P : State causeW → Prop} (halt : ∀ s, (scanStep s).1.halts = true → P s)
    (more : ∀ s, (scanStep s).1.halts = false → P (scanStep s).2 → P s) (s : State causeW) : P s := by
  suffices H : ∀ (n : Nat) (s : State causeW), s.pending.length - s.cursor < n → P s from H _ s (Nat.lt_succ_self _)
  intro n
  induction n with
  | zero => intro s h; omega
  | succ n ih =>
    intro s h
    match hh : (scanStep s).1.halts with
    | true => exact halt s hh
    | false =>
      have hp := scanStep_progress s hh
      refine more s hh (ih _ ?_)
      rw [(scanStep_frame s).1]
      omega

/-- The frame of the loop (R107). -/
theorem scanLoop_frame (s : State causeW) :
    (scanLoop s).pending = s.pending ∧ (scanLoop s).phase = s.phase ∧ (scanLoop s).result = s.result ∧
      (scanLoop s).nonEmpty = s.nonEmpty ∧ (scanLoop s).failCause = s.failCause ∧
      (scanLoop s).consumed = s.consumed ∧ (scanLoop s).inputs = s.inputs ∧
      (scanLoop s).presented = s.presented := by
  refine scanLoop_induction (P := fun s => (scanLoop s).pending = s.pending ∧ (scanLoop s).phase = s.phase ∧
    (scanLoop s).result = s.result ∧ (scanLoop s).nonEmpty = s.nonEmpty ∧ (scanLoop s).failCause = s.failCause ∧
    (scanLoop s).consumed = s.consumed ∧ (scanLoop s).inputs = s.inputs ∧
    (scanLoop s).presented = s.presented) ?_ ?_ s
  · intro s h
    rw [scanLoop_unroll, if_pos h]
    simp
  · intro s h ih
    rw [scanLoop_unroll, if_neg (by simp [h])]
    have hf := scanStep_frame s
    simp only [hf.1, hf.2.1, hf.2.2.1, hf.2.2.2.1, hf.2.2.2.2.1, hf.2.2.2.2.2.1, hf.2.2.2.2.2.2] at ih
    exact ih

/-- The loop keeps the cursor inside `pending` and never moves it back (R114, R115). -/
theorem scanLoop_cursor (s : State causeW) (h : s.cursor ≤ s.pending.length) :
    s.cursor ≤ (scanLoop s).cursor ∧ (scanLoop s).cursor ≤ s.pending.length := by
  refine scanLoop_induction (P := fun s => s.cursor ≤ s.pending.length →
    s.cursor ≤ (scanLoop s).cursor ∧ (scanLoop s).cursor ≤ s.pending.length) ?_ ?_ s h
  · intro s hh hle
    rw [scanLoop_unroll, if_pos hh]
    exact ⟨Nat.le_refl _, hle⟩
  · intro s hh ih _
    have hp := scanStep_progress s hh
    rw [(scanStep_frame s).1] at ih
    have := ih hp.2
    rw [scanLoop_unroll, if_neg (by simp [hh])]
    omega

/-- The loop does not look at what the host still has to present. -/
theorem scanLoop_with_inputs (s : State causeW) (rest : List Input) :
    scanLoop { s with inputs := rest } = { scanLoop s with inputs := rest } := by
  refine scanLoop_induction (P := fun s => scanLoop { s with inputs := rest } = { scanLoop s with inputs := rest }) ?_ ?_ s
  · intro s h
    rw [scanLoop_unroll, scanLoop_unroll s, scanStep_with_inputs]
    simp [h]
  · intro s h ih
    rw [scanLoop_unroll, scanLoop_unroll s, scanStep_with_inputs]
    simp [h, ih]

/-- More fuel than bytes ahead makes no difference to the trace. -/
theorem scanTraceFuel_fuel (n m : Nat) (s : State causeW) (hn : s.pending.length - s.cursor < n)
    (hm : s.pending.length - s.cursor < m) : scanTraceFuel n s = scanTraceFuel m s := by
  induction n generalizing m s with
  | zero => omega
  | succ n ih =>
    cases m with
    | zero => omega
    | succ m =>
      simp only [scanTraceFuel]
      by_cases h : (scanStep s).1.halts = true
      · simp [h]
      · have hp := scanStep_progress s (by simpa using h)
        simp only [h, if_false, Bool.false_eq_true]
        congr 1
        apply ih <;> rw [(scanStep_frame s).1] <;> omega

/-- The trace unrolled once: this step's outcome, then nothing after a halt and the rest's trace otherwise. -/
theorem scanTrace_unroll (s : State causeW) :
    scanTrace s = (s.consumed + s.cursor, (scanStep s).1) ::
      (if (scanStep s).1.halts then [] else scanTrace (scanStep s).2) := by
  rw [scanTrace, scanTraceFuel]
  congr 1
  split
  · rfl
  · rename_i h
    have hp := scanStep_progress s (by simpa using h)
    apply scanTraceFuel_fuel <;> rw [(scanStep_frame s).1] <;> omega

end Sys2Proof.Machine
end

