-- ==== Sys2Proof/Laws/Command.lean ====
section
/-! SUPPORT. The host commands: their frames, and that none looks at or changes what the host still has to present. -/

namespace Sys2Proof.Machine

variable {causeW : Nat}

/-- What a CHUNK in `IDLE` leaves alone (R124): the phase, the result, the cause and the host's inputs; the cursor is 0
again. -/
theorem scanChunk_frame (chunk : List Byte) (s : State causeW) :
    (scanChunk chunk s).phase = s.phase ∧ (scanChunk chunk s).result = s.result ∧
      (scanChunk chunk s).failCause = s.failCause ∧ (scanChunk chunk s).inputs = s.inputs ∧
      (scanChunk chunk s).presented = s.presented ∧
      (scanChunk chunk s).nonEmpty = nonEmptyAfter s.nonEmpty chunk ∧ (scanChunk chunk s).cursor = 0 := by
  have h := scanLoop_frame (append chunk s)
  simp [scanChunk, h]

/-- A CHUNK drops exactly what the loop scanned past, so nothing received is lost count of (R27, R48). -/
theorem scanChunk_received (chunk : List Byte) (s : State causeW) (h : s.cursor ≤ s.pending.length) :
    (scanChunk chunk s).consumed + (scanChunk chunk s).pending.length =
      s.consumed + s.pending.length + chunk.length := by
  have hf := scanLoop_frame (append chunk s)
  have hc := scanLoop_cursor (append chunk s) (by simp; omega)
  simp only [append_pending, append_cursor, List.length_append] at hc
  simp only [scanChunk, compact_consumed, compact_pending, List.length_drop, hf, append_pending,
    append_consumed, List.length_append]
  omega

theorem scanChunk_with_inputs (chunk : List Byte) (s : State causeW) (rest : List Input) :
    scanChunk chunk { s with inputs := rest } = { scanChunk chunk s with inputs := rest } := by
  have h : append chunk { s with inputs := rest } = { append chunk s with inputs := rest } := rfl
  rw [scanChunk, h, scanLoop_with_inputs]
  rfl

/-- `EOS` is terminal entry with the outcome of R126. -/
theorem endOfData_eq (s : State causeW) : endOfData s = terminate (eosResult s.nonEmpty s.frameCount) s := by
  unfold endOfData
  split <;> rename_i h <;> (try rw [h]) <;> rfl

theorem endOfData_with_inputs (s : State causeW) (rest : List Input) :
    endOfData { s with inputs := rest } = { endOfData s with inputs := rest } := by
  rw [endOfData_eq, endOfData_eq]
  rfl

/-- No command looks at what is still to be presented. -/
theorem apply_with_inputs (c : Command causeW) (s : State causeW) (rest : List Input) :
    c.apply { s with inputs := rest } = { c.apply s with inputs := rest } := by
  cases c with
  | reset => rfl
  | chunk bytes =>
    simp only [Command.apply, chunkCommand]
    split
    · exact scanChunk_with_inputs bytes s rest
    · rfl
    · rfl
  | eos =>
    simp only [Command.apply, eosCommand]
    split
    · exact endOfData_with_inputs s rest
    · rfl
    · rfl
  | fail cause =>
    simp only [Command.apply, failCommand]
    split <;> rfl
  | rsvd3 => rfl

/-- No command changes the host's side. -/
theorem apply_host_side (c : Command causeW) (s : State causeW) :
    (c.apply s).inputs = s.inputs ∧ (c.apply s).presented = s.presented := by
  cases c with
  | reset => exact ⟨rfl, rfl⟩
  | chunk bytes =>
    simp only [Command.apply, chunkCommand]
    split <;> simp [scanChunk_frame]
  | eos =>
    simp only [Command.apply, eosCommand]
    split <;> simp [endOfData_eq]
  | fail cause =>
    simp only [Command.apply, failCommand]
    split <;> simp [raise_frame]
  | rsvd3 => exact ⟨rfl, rfl⟩

/-- A command sequence in two parts. -/
theorem runCommands_append (cs ds : List (Command causeW)) (s : State causeW) :
    runCommands (cs ++ ds) s = runCommands ds (runCommands cs s) := by
  induction cs generalizing s with
  | nil => rfl
  | cons c cs ih => exact ih (c.apply s)

end Sys2Proof.Machine
end

