-- ==== Sys2Proof/Laws/PerInstr.lean ====
section
/-! SUPPORT. Facts about every instruction as syntax, one lemma per constructor (LAWS.json names the family). -/

namespace Sys2Proof.Laws

/-- Masking two concatenations of one shape is masking the parts. -/
theorem and_append_parts {m n : Nat} (x x' : BitVec m) (y y' : BitVec n) :
    (x ++ y) &&& (x' ++ y') = (x &&& x') ++ (y &&& y') := by
  apply BitVec.eq_of_getLsbD_eq
  intro i hi
  simp only [BitVec.getLsbD_and, BitVec.getLsbD_append]
  split <;> rfl

/-- Masking a word of six fields is masking each field. -/
theorem and_fields (a a' : BitVec 11) (b b' : BitVec 5) (c c' : BitVec 4) (d d' : BitVec 2) (e e' : BitVec 1)
    (f f' : BitVec 9) : (a ++ b ++ c ++ d ++ e ++ f) &&& (a' ++ b' ++ c' ++ d' ++ e' ++ f') =
      (a &&& a') ++ (b &&& b') ++ (c &&& c') ++ (d &&& d') ++ (e &&& e') ++ (f &&& f') := by
  simp only [and_append_parts]

section
variable (ign : BitVec 5) (br : BitVec 4) (sr : BitVec 2) (pad : BitVec 1) (low : BitVec 9)

/-- A synced word under the mask that keeps both indices (R69). -/
theorem syncedWord_and_valid : syncedWord ign br sr pad low &&& 0xFFE0FC00#32 = syncedWord 0#5 br sr 0#1 0#9 := by
  refine (and_fields 0x7FF#11 0x7FF#11 ign 0#5 br (BitVec.allOnes 4) sr (BitVec.allOnes 2) pad 0#1 low 0#9).trans ?_
  simp only [BitVec.and_zero, BitVec.and_self, BitVec.and_allOnes]
  rfl

/-- A synced word under the mask that keeps the bitrate index (R68). -/
theorem syncedWord_and_br : syncedWord ign br sr pad low &&& 0xFFE0F000#32 = syncedWord 0#5 br 0#2 0#1 0#9 := by
  refine (and_fields 0x7FF#11 0x7FF#11 ign 0#5 br (BitVec.allOnes 4) sr 0#2 pad 0#1 low 0#9).trans ?_
  simp only [BitVec.and_zero, BitVec.and_self, BitVec.and_allOnes]
  rfl

/-- A synced word under the mask that keeps the sample-rate index (R68). -/
theorem syncedWord_and_sr : syncedWord ign br sr pad low &&& 0xFFE00C00#32 = syncedWord 0#5 0#4 sr 0#1 0#9 := by
  refine (and_fields 0x7FF#11 0x7FF#11 ign 0#5 br 0#4 sr (BitVec.allOnes 2) pad 0#1 low 0#9).trans ?_
  simp only [BitVec.and_zero, BitVec.and_self, BitVec.and_allOnes]
  rfl

end

namespace EncodesToItsRow

/-- The code of a header row is a word of that row of the opcode table (R67, R68, R69); the code of a command row is
not a header word. -/
def Statement (i : Instr) : Prop :=
  match encode i, i.hdrRow with
  | .hdr word, some row => word &&& row.mask = row.pattern
  | .hdr _, none => False
  | .beat _ _, some _ => False
  | .beat _ _, none => True
  | .rst _, some _ => False
  | .rst _, none => True

theorem nosync31 (rest : BitVec 31) : Statement (.nosync31 rest) := by
  refine (and_append_parts 0x0#1 0x1#1 rest 0#31).trans ?_
  rw [BitVec.and_zero]
  rfl

theorem nosync30 (rest : BitVec 30) : Statement (.nosync30 rest) := by
  refine (and_append_parts 0x2#2 0x3#2 rest 0#30).trans ?_
  rw [BitVec.and_zero]
  rfl

theorem nosync29 (rest : BitVec 29) : Statement (.nosync29 rest) := by
  refine (and_append_parts 0x6#3 0x7#3 rest 0#29).trans ?_
  rw [BitVec.and_zero]
  rfl

theorem nosync28 (rest : BitVec 28) : Statement (.nosync28 rest) := by
  refine (and_append_parts 0xe#4 0xf#4 rest 0#28).trans ?_
  rw [BitVec.and_zero]
  rfl

theorem nosync27 (rest : BitVec 27) : Statement (.nosync27 rest) := by
  refine (and_append_parts 0x1e#5 0x1f#5 rest 0#27).trans ?_
  rw [BitVec.and_zero]
  rfl

theorem nosync26 (rest : BitVec 26) : Statement (.nosync26 rest) := by
  refine (and_append_parts 0x3e#6 0x3f#6 rest 0#26).trans ?_
  rw [BitVec.and_zero]
  rfl

theorem nosync25 (rest : BitVec 25) : Statement (.nosync25 rest) := by
  refine (and_append_parts 0x7e#7 0x7f#7 rest 0#25).trans ?_
  rw [BitVec.and_zero]
  rfl

theorem nosync24 (rest : BitVec 24) : Statement (.nosync24 rest) := by
  refine (and_append_parts 0xfe#8 0xff#8 rest 0#24).trans ?_
  rw [BitVec.and_zero]
  rfl

theorem nosync23 (rest : BitVec 23) : Statement (.nosync23 rest) := by
  refine (and_append_parts 0x1fe#9 0x1ff#9 rest 0#23).trans ?_
  rw [BitVec.and_zero]
  rfl

theorem nosync22 (rest : BitVec 22) : Statement (.nosync22 rest) := by
  refine (and_append_parts 0x3fe#10 0x3ff#10 rest 0#22).trans ?_
  rw [BitVec.and_zero]
  rfl

theorem nosync21 (rest : BitVec 21) : Statement (.nosync21 rest) := by
  refine (and_append_parts 0x7fe#11 0x7ff#11 rest 0#21).trans ?_
  rw [BitVec.and_zero]
  rfl

theorem rejBr0 (ign : BitVec 5) (sr : BitVec 2) (pad : BitVec 1) (low : BitVec 9) : Statement (.rejBr0 ign sr pad low) :=
  syncedWord_and_br ..

theorem rejBr15 (ign : BitVec 5) (sr : BitVec 2) (pad : BitVec 1) (low : BitVec 9) : Statement (.rejBr15 ign sr pad low) :=
  syncedWord_and_br ..

theorem rejSr3 (ign : BitVec 5) (br : BitVec 4) (pad : BitVec 1) (low : BitVec 9) : Statement (.rejSr3 ign br pad low) :=
  syncedWord_and_sr ..

theorem hdrB01S0 (ign : BitVec 5) (pad : BitVec 1) (low : BitVec 9) : Statement (.hdrB01S0 ign pad low) :=
  syncedWord_and_valid ..

theorem hdrB01S1 (ign : BitVec 5) (pad : BitVec 1) (low : BitVec 9) : Statement (.hdrB01S1 ign pad low) :=
  syncedWord_and_valid ..

theorem hdrB01S2 (ign : BitVec 5) (pad : BitVec 1) (low : BitVec 9) : Statement (.hdrB01S2 ign pad low) :=
  syncedWord_and_valid ..

theorem hdrB02S0 (ign : BitVec 5) (pad : BitVec 1) (low : BitVec 9) : Statement (.hdrB02S0 ign pad low) :=
  syncedWord_and_valid ..

theorem hdrB02S1 (ign : BitVec 5) (pad : BitVec 1) (low : BitVec 9) : Statement (.hdrB02S1 ign pad low) :=
  syncedWord_and_valid ..

theorem hdrB02S2 (ign : BitVec 5) (pad : BitVec 1) (low : BitVec 9) : Statement (.hdrB02S2 ign pad low) :=
  syncedWord_and_valid ..

theorem hdrB03S0 (ign : BitVec 5) (pad : BitVec 1) (low : BitVec 9) : Statement (.hdrB03S0 ign pad low) :=
  syncedWord_and_valid ..

theorem hdrB03S1 (ign : BitVec 5) (pad : BitVec 1) (low : BitVec 9) : Statement (.hdrB03S1 ign pad low) :=
  syncedWord_and_valid ..

theorem hdrB03S2 (ign : BitVec 5) (pad : BitVec 1) (low : BitVec 9) : Statement (.hdrB03S2 ign pad low) :=
  syncedWord_and_valid ..

theorem hdrB04S0 (ign : BitVec 5) (pad : BitVec 1) (low : BitVec 9) : Statement (.hdrB04S0 ign pad low) :=
  syncedWord_and_valid ..

theorem hdrB04S1 (ign : BitVec 5) (pad : BitVec 1) (low : BitVec 9) : Statement (.hdrB04S1 ign pad low) :=
  syncedWord_and_valid ..

theorem hdrB04S2 (ign : BitVec 5) (pad : BitVec 1) (low : BitVec 9) : Statement (.hdrB04S2 ign pad low) :=
  syncedWord_and_valid ..

theorem hdrB05S0 (ign : BitVec 5) (pad : BitVec 1) (low : BitVec 9) : Statement (.hdrB05S0 ign pad low) :=
  syncedWord_and_valid ..

theorem hdrB05S1 (ign : BitVec 5) (pad : BitVec 1) (low : BitVec 9) : Statement (.hdrB05S1 ign pad low) :=
  syncedWord_and_valid ..

theorem hdrB05S2 (ign : BitVec 5) (pad : BitVec 1) (low : BitVec 9) : Statement (.hdrB05S2 ign pad low) :=
  syncedWord_and_valid ..

theorem hdrB06S0 (ign : BitVec 5) (pad : BitVec 1) (low : BitVec 9) : Statement (.hdrB06S0 ign pad low) :=
  syncedWord_and_valid ..

theorem hdrB06S1 (ign : BitVec 5) (pad : BitVec 1) (low : BitVec 9) : Statement (.hdrB06S1 ign pad low) :=
  syncedWord_and_valid ..

theorem hdrB06S2 (ign : BitVec 5) (pad : BitVec 1) (low : BitVec 9) : Statement (.hdrB06S2 ign pad low) :=
  syncedWord_and_valid ..

theorem hdrB07S0 (ign : BitVec 5) (pad : BitVec 1) (low : BitVec 9) : Statement (.hdrB07S0 ign pad low) :=
  syncedWord_and_valid ..

theorem hdrB07S1 (ign : BitVec 5) (pad : BitVec 1) (low : BitVec 9) : Statement (.hdrB07S1 ign pad low) :=
  syncedWord_and_valid ..

theorem hdrB07S2 (ign : BitVec 5) (pad : BitVec 1) (low : BitVec 9) : Statement (.hdrB07S2 ign pad low) :=
  syncedWord_and_valid ..

theorem hdrB08S0 (ign : BitVec 5) (pad : BitVec 1) (low : BitVec 9) : Statement (.hdrB08S0 ign pad low) :=
  syncedWord_and_valid ..

theorem hdrB08S1 (ign : BitVec 5) (pad : BitVec 1) (low : BitVec 9) : Statement (.hdrB08S1 ign pad low) :=
  syncedWord_and_valid ..

theorem hdrB08S2 (ign : BitVec 5) (pad : BitVec 1) (low : BitVec 9) : Statement (.hdrB08S2 ign pad low) :=
  syncedWord_and_valid ..

theorem hdrB09S0 (ign : BitVec 5) (pad : BitVec 1) (low : BitVec 9) : Statement (.hdrB09S0 ign pad low) :=
  syncedWord_and_valid ..

theorem hdrB09S1 (ign : BitVec 5) (pad : BitVec 1) (low : BitVec 9) : Statement (.hdrB09S1 ign pad low) :=
  syncedWord_and_valid ..

theorem hdrB09S2 (ign : BitVec 5) (pad : BitVec 1) (low : BitVec 9) : Statement (.hdrB09S2 ign pad low) :=
  syncedWord_and_valid ..

theorem hdrB10S0 (ign : BitVec 5) (pad : BitVec 1) (low : BitVec 9) : Statement (.hdrB10S0 ign pad low) :=
  syncedWord_and_valid ..

theorem hdrB10S1 (ign : BitVec 5) (pad : BitVec 1) (low : BitVec 9) : Statement (.hdrB10S1 ign pad low) :=
  syncedWord_and_valid ..

theorem hdrB10S2 (ign : BitVec 5) (pad : BitVec 1) (low : BitVec 9) : Statement (.hdrB10S2 ign pad low) :=
  syncedWord_and_valid ..

theorem hdrB11S0 (ign : BitVec 5) (pad : BitVec 1) (low : BitVec 9) : Statement (.hdrB11S0 ign pad low) :=
  syncedWord_and_valid ..

theorem hdrB11S1 (ign : BitVec 5) (pad : BitVec 1) (low : BitVec 9) : Statement (.hdrB11S1 ign pad low) :=
  syncedWord_and_valid ..

theorem hdrB11S2 (ign : BitVec 5) (pad : BitVec 1) (low : BitVec 9) : Statement (.hdrB11S2 ign pad low) :=
  syncedWord_and_valid ..

theorem hdrB12S0 (ign : BitVec 5) (pad : BitVec 1) (low : BitVec 9) : Statement (.hdrB12S0 ign pad low) :=
  syncedWord_and_valid ..

theorem hdrB12S1 (ign : BitVec 5) (pad : BitVec 1) (low : BitVec 9) : Statement (.hdrB12S1 ign pad low) :=
  syncedWord_and_valid ..

theorem hdrB12S2 (ign : BitVec 5) (pad : BitVec 1) (low : BitVec 9) : Statement (.hdrB12S2 ign pad low) :=
  syncedWord_and_valid ..

theorem hdrB13S0 (ign : BitVec 5) (pad : BitVec 1) (low : BitVec 9) : Statement (.hdrB13S0 ign pad low) :=
  syncedWord_and_valid ..

theorem hdrB13S1 (ign : BitVec 5) (pad : BitVec 1) (low : BitVec 9) : Statement (.hdrB13S1 ign pad low) :=
  syncedWord_and_valid ..

theorem hdrB13S2 (ign : BitVec 5) (pad : BitVec 1) (low : BitVec 9) : Statement (.hdrB13S2 ign pad low) :=
  syncedWord_and_valid ..

theorem hdrB14S0 (ign : BitVec 5) (pad : BitVec 1) (low : BitVec 9) : Statement (.hdrB14S0 ign pad low) :=
  syncedWord_and_valid ..

theorem hdrB14S1 (ign : BitVec 5) (pad : BitVec 1) (low : BitVec 9) : Statement (.hdrB14S1 ign pad low) :=
  syncedWord_and_valid ..

theorem hdrB14S2 (ign : BitVec 5) (pad : BitVec 1) (low : BitVec 9) : Statement (.hdrB14S2 ign pad low) :=
  syncedWord_and_valid ..

theorem data (byte : Byte) : Statement (.data byte) := trivial
theorem eos (ign : Byte) : Statement (.eos ign) := trivial
theorem fail (cause : Byte) : Statement (.fail cause) := trivial
theorem rsvd3 (ign : Byte) : Statement (.rsvd3 ign) := trivial
theorem reset : Statement .reset := trivial

end EncodesToItsRow

end Sys2Proof.Laws
end

