-- ==== Sys2Proof/Laws/Step.lean ====
section
/-! SUPPORT. Every instruction answers a next state, and what one step of the machine can do, said once. -/

namespace Sys2Proof.Machine

/-- The effect of an instruction as a function of the state: no instruction stops (R97, R153). -/
theorem exec_next (i : Instr) (s : State) : ∃ t, exec i s = .next t := by
  cases i <;> exact ⟨_, rfl⟩

/-- What a sample is at its edge, where the host held its beat, in phase `IDLE` or `DONE`. -/
def edgeEffect (p : PortIn) (s : State) : State :=
  if p.rst then restart s
  else if p.inValid then
    match p.inKind.toNat with
    | 0 => chunkCommand [p.inData] s
    | 1 => eosCommand s
    | 2 => failCommand p.inData s
    | _ => s
  else s

/-- An edge does not change the host's side. -/
theorem edgeEffect_host_side (p : PortIn) (s : State) :
    (edgeEffect p s).inputs = s.inputs ∧ (edgeEffect p s).presented = s.presented := by
  unfold edgeEffect
  split
  · exact apply_host_side .reset s
  · split
    · split
      · exact apply_host_side (.chunk [p.inData]) s
      · exact apply_host_side .eos s
      · exact apply_host_side (.fail p.inData) s
      · exact ⟨rfl, rfl⟩
    · exact ⟨rfl, rfl⟩

/-- What an input is once it is taken, in phase `IDLE` or `DONE`. -/
def inputEffect : Input → State → State
  | .edge p, s => edgeEffect p { s with presented := presentedAfter p }
  | .chunk bytes, s => openChunk bytes s

/-- An input that is taken has that effect (R134 to R136). -/
theorem inputStep_eq (x : Input) (s : State) : inputStep x s = .next (inputEffect x s) := by
  cases x with
  | chunk bytes => rfl
  | edge p =>
    simp only [inputStep, portEdge, inputEffect, edgeEffect, decodeBeat]
    split
    · rfl
    · split
      · generalize p.inKind.toNat = k
        match k with
        | 0 | 1 | 2 | _ + 3 => rfl
      · rfl

/-- The inversion of a step between CHUNKs: it waits, its oldest input takes effect, or the trace is refused. -/
theorem takeInput_cases (s : State) :
    (s.inputs = [] ∧ takeInput s = .next s) ∨
    ∃ x rest, s.inputs = x :: rest ∧
      ((keepsBeat s.presented x = true ∧ takeInput s = .next (inputEffect x { s with inputs := rest })) ∨
       (keepsBeat s.presented x = false ∧ takeInput s = .refused .beatNotHeld)) := by
  match h : s.inputs with
  | [] => exact .inl ⟨rfl, by simp [takeInput, h]⟩
  | x :: rest =>
    refine .inr ⟨x, rest, rfl, ?_⟩
    match hk : keepsBeat s.presented x with
    | true => exact .inl ⟨rfl, by simp [takeInput, h, hk, inputStep_eq]⟩
    | false => exact .inr ⟨rfl, by simp [takeInput, h, hk]⟩

/-- With no beat to hold, everything is taken. -/
@[simp] theorem keepsBeat_none (x : Input) : keepsBeat none x = true := rfl

/-- A presented beat is held by a sample exactly when the sample presents it again (R135). -/
theorem keepsBeat_some_edge (b : Beat) (p : PortIn) :
    keepsBeat (some b) (.edge p) = true ↔ p.inValid = true ∧ p.inKind = b.kind ∧ p.inData = b.data := by
  obtain ⟨kind, data⟩ := b
  simp only [keepsBeat, PortIn.presents]
  split <;> simp_all

/-- One step more in front. -/
theorem runSteps_succ {s t : State} (k : Nat) (h : step s = .next t) : runSteps (k + 1) s = runSteps k t := by
  rw [runSteps, h]
  rfl

/-- Steps in two parts. -/
theorem runSteps_add (a b : Nat) {s t : State} (h : runSteps a s = .next t) : runSteps (a + b) s = runSteps b t := by
  induction a generalizing s with
  | zero =>
    cases h
    rw [Nat.zero_add]
  | succ a ih =>
    rw [Nat.add_right_comm]
    rw [runSteps] at h ⊢
    match hs : step s with
    | .next u =>
      rw [hs] at h
      exact ih h
    | .fault e =>
      rw [hs] at h
      cases h
    | .refused e =>
      rw [hs] at h
      cases h

/-- A run at the host's interface, step by step. -/
theorem coreRun_next (M : Host.Core) (k : Nat) {s t : M.State} (h : M.step s = .next t) :
    M.run (k + 1) s = M.run k t := by
  rw [Host.Core.run, h]

/-- The run at the host's interface is `runSteps` (no step stops). -/
theorem coreRun_eq_runSteps {k : Nat} {s t : State} (h : runSteps k s = .next t) : core.run k s = .next t := by
  induction k generalizing s with
  | zero => exact h
  | succ k ih =>
    rw [runSteps] at h
    match hs : step s with
    | .next u =>
      rw [hs] at h
      exact (coreRun_next core k hs).trans (ih h)
    | .fault e =>
      rw [hs] at h
      cases h
    | .refused e =>
      rw [hs] at h
      cases h

end Sys2Proof.Machine
end

