-- ==== Sys2Proof/Tests/Slice0.lean ====
section
/-! SUPPORT. The model's own tests: expected results are the words and vectors of spec/95_test_vectors.md and the
encodings of spec/30_encoding.md, not the model's answers. After them, one theorem per obligation with hypotheses,
which shows that its hypotheses are met together. -/

namespace Sys2Proof.Tests

open Sys2Proof.Machine

/-! ### Helpers -/

/-- The next state, if there is one. -/
def nextOf (r : Host.Outcome State Fault Refusal) : Option State :=
  match r with
  | .next t => some t
  | .fault _ => none
  | .refused _ => none

/-- A state inside a CHUNK. -/
def scanning (pending : List Byte) (cursor frameCount : Nat) : State :=
  { State.reset with
    pending := pending, cursor := cursor, frameCount := frameCount, phase := .scanning, nonEmpty := true }

/-- Cursor, frame count and number of pending bytes of the next state. -/
def seen (r : Host.Outcome State Fault Refusal) : Option (Nat × Nat × Nat) :=
  (nextOf r).map (fun t => (t.cursor, t.frameCount, t.pending.length))

/-- `F417`, the source's frame. -/
def f417 : List Byte := [0xFF#8, 0xFB#8, 0x90#8, 0x00#8] ++ List.replicate 413 0x00#8

/-- The shortest frame: `FF E0 14 00` and 92 zero bytes. -/
def f96 : List Byte := [0xFF#8, 0xE0#8, 0x14#8, 0x00#8] ++ List.replicate 92 0x00#8

/-- Between chunks, suspended on the header of the shortest frame. -/
def suspended : State := { State.reset with pending := [0xFF#8, 0xE0#8, 0x14#8, 0x00#8], nonEmpty := true }

/-- Between chunks, everything consumed, one frame counted. -/
def counted : State := { State.reset with frameCount := 1, nonEmpty := true, consumed := 96 }

/-- A scan that ended well. -/
def doneOk : State := { counted with phase := .done, result := .ok }

/-- A scan that a read failure ended. -/
def doneFail : State := { State.reset with phase := .done, result := .sourceReadFailure, failCause := 0x2A#8 }

/-! ### WellFormed: each check, with a term it refuses -/

theorem test_wf_refuses_rejBr0_sr3 : (Instr.rejBr0 0b11011#5 3#2 0#1 0#9).wf = false := by decide
theorem test_wf_refuses_rejBr15_sr3 : (Instr.rejBr15 0b11011#5 3#2 0#1 0#9).wf = false := by decide
theorem test_wf_accepts_rejBr0_sr2 : (Instr.rejBr0 0b11011#5 2#2 0#1 0#9).wf = true := by decide

/-! ### Decoding: words written out from the encodings of R60 to R69 and R74 -/

/-- R67, row `NOSYNC_31`: bit 31 is 0 (vector H19). -/
theorem test_decode_nosync31 : decode (.hdr 0b00010010001101001001000000000000#32) = .ok (.nosync31 0x12349000#31) := rfl
/-- R67, row `NOSYNC_24`: bits 31 to 25 are ones, bit 24 is 0 (vector H17). -/
theorem test_decode_nosync24 : decode (.hdr 0b11111110111110111001000000000000#32) = .ok (.nosync24 0xFB9000#24) := rfl
/-- R67, row `NOSYNC_21`: bits 31 to 22 are ones, bit 21 is 0 (vector H16). -/
theorem test_decode_nosync21 : decode (.hdr 0b11111111110110111001000000000000#32) = .ok (.nosync21 0x1B9000#21) := rfl
/-- R68, `REJ_BR0` (vector H12). -/
theorem test_decode_rejBr0 : decode (.hdr 0b11111111111110110000000000000000#32) = .ok (.rejBr0 0b11011#5 0#2 0#1 0#9) := rfl
/-- R68, `REJ_BR15` (vector H11). -/
theorem test_decode_rejBr15 : decode (.hdr 0b11111111111110111111000000000000#32) = .ok (.rejBr15 0b11011#5 0#2 0#1 0#9) := rfl
/-- R68, `REJ_SR3` (vector H13). -/
theorem test_decode_rejSr3 : decode (.hdr 0b11111111111110111001110000000000#32) = .ok (.rejSr3 0b11011#5 9#4 0#1 0#9) := rfl
/-- R68, both reserved (vector H15): a `REJECT` word whichever row answers. -/
theorem test_decode_all_ones : (decodeHeader 0xFFFFFFFF#32).hdrKind = some .reject := by decide
/-- R69, `HDR_B09_S0` (vector H1). -/
theorem test_decode_hdrB09S0 : decode (.hdr 0b11111111111110111001000000000000#32) = .ok (.hdrB09S0 0b11011#5 0#1 0#9) := rfl
/-- R69, `HDR_B09_S0` with padding and with all the low ignored bits (vectors H2, H10). -/
theorem test_decode_hdrB09S0_operands :
    decode (.hdr 0b11111111111110111001001000000000#32) = .ok (.hdrB09S0 0b11011#5 1#1 0#9) ∧
    decode (.hdr 0b11111111111110111001000111111111#32) = .ok (.hdrB09S0 0b11011#5 0#1 0x1FF#9) := ⟨rfl, rfl⟩
/-- R69, `HDR_B01_S1` (vector H3). -/
theorem test_decode_hdrB01S1 : decode (.hdr 0b11111111111000000001010000000000#32) = .ok (.hdrB01S1 0#5 0#1 0#9) := rfl
/-- R69, `HDR_B14_S2` (vector H4). -/
theorem test_decode_hdrB14S2 : decode (.hdr 0b11111111111111111110101000000000#32) = .ok (.hdrB14S2 0b11111#5 1#1 0#9) := rfl
/-- R74: the four kinds of a beat. -/
theorem test_decode_beats :
    decode (.beat 0b00#2 0x49#8) = .ok (.data 0x49#8) ∧ decode (.beat 0b01#2 0#8) = .ok (.eos 0#8) ∧
    decode (.beat 0b10#2 0x2A#8) = .ok (.fail 0x2A#8) ∧ decode (.beat 0b11#2 0#8) = .ok (.rsvd3 0#8) :=
  ⟨rfl, rfl, rfl, rfl⟩
/-- R134: `rst` high is RESET, low is nothing. -/
theorem test_decode_rst : decode (.rst 1#1) = .ok .reset ∧ decode (.rst 0#1) = .error .rstNotAsserted := ⟨rfl, rfl⟩
/-- R42, R59: the first byte is the most significant; three bytes are no header. -/
theorem test_decode_bytes :
    decodeBytes [0xFF#8, 0xFB#8, 0x90#8, 0x00#8, 0x77#8] = .ok (.hdrB09S0 0b11011#5 0#1 0#9) ∧
    decodeBytes [0xFF#8, 0xFB#8, 0x90#8] = .error .headerTooShort := ⟨rfl, rfl⟩
/-- The table's numbering: a header, the kinds, the pin. -/
theorem test_decode_table_words :
    decodeTableWord 32 0xFFE01000 = some (.hdrB01S0 0#5 0#1 0#9) ∧ decodeTableWord 32 0x80000000 = some (.nosync30 0#30) ∧
    decodeTableWord 8 0 = some (.data 0#8) ∧ decodeTableWord 8 1 = some (.eos 0#8) ∧
    decodeTableWord 8 2 = some (.fail 0#8) ∧ decodeTableWord 8 3 = some (.rsvd3 0#8) ∧
    decodeTableWord 1 1 = some .reset ∧ decodeTableWord 8 4 = none := by decide

/-! ### The header decoder: vectors H1 to H19 -/

theorem test_classify_valid :
    [0xFFFB9000#32, 0xFFFB9200#32, 0xFFE01400#32, 0xFFFFEA00#32, 0xFFFBE800#32, 0xFFFB1000#32, 0xFFFA9400#32,
      0xFFF35000#32, 0xFFE09000#32, 0xFFFB91FF#32].map classify =
    [417, 418, 96, 1441, 1440, 104, 384, 208, 417, 417].map .valid := by decide
theorem test_classify_reject :
    [0xFFFBF000#32, 0xFFFB0000#32, 0xFFFB9C00#32, 0xFFFBFC00#32, 0xFFFFFFFF#32].map classify =
    List.replicate 5 .reject := by decide
theorem test_classify_nosync :
    [0xFFDB9000#32, 0xFEFB9000#32, 0x00000000#32, 0x12349000#32].map classify = List.replicate 4 .nosync := by decide
/-- R87, corner case: `DECODE` alone answers without a sync (H16, H17, H18). -/
theorem test_decode_without_sync :
    [0xFFDB9000#32, 0xFEFB9000#32, 0x00000000#32].map decodeHdr =
    [.frameLength 417, .frameLength 417, .rejected] := by decide
/-- R92: (14, 0) is 1044, not 1045. -/
theorem test_rounds_down : decodeFields 14#4 0#2 0#1 = .frameLength 1044 := by decide
/-- R80 on the source's example and on a rejection. -/
theorem test_decoder_ports :
    decoderPorts 0xFFFB9200#32 = ⟨1#1, 9#4, 0#2, 1#1, 128#9, 44100#16, 1#1, 418#11, 1#1⟩ ∧
    decoderPorts 0xFFFBF000#32 = ⟨1#1, 15#4, 0#2, 0#1, 0#9, 44100#16, 0#1, 0#11, 0#1⟩ := by decide

/-! ### The scan step: vectors S1 to S14, one instruction each -/

/-- S11 and S7: `SKIP`, also with exactly four bytes ahead. -/
theorem test_nosync31_skips :
    seen (exec (.nosync31 0x00FFFB90#31) (scanning [0#8, 0xFF#8, 0xFB#8, 0x90#8, 0#8] 0 0)) = some (1, 0, 5) ∧
    seen (exec (.nosync31 0#31) (scanning [7#8, 0#8, 0#8, 0#8, 0#8] 1 1)) = some (2, 1, 5) := by decide
/-- S14: `REJECT`, the count untouched. -/
theorem test_rejBr15_advances_one :
    seen (exec (.rejBr15 0b11011#5 0#2 0#1 0#9) (scanning [0xFF#8, 0xFB#8, 0xF0#8, 0#8] 0 7)) = some (1, 7, 4) := by decide
/-- S9: the reject at the stray `FF` before a frame. -/
theorem test_rejBr15_stray_byte :
    seen (exec (decodeHeader 0xFFFFFB90#32) (scanning ([0xFF#8] ++ f417) 0 0)) = some (1, 0, 418) := by decide +kernel
/-- S5, S10: `ACCEPT` when the frame's last byte is the last byte of `pending`. -/
theorem test_hdrB09S0_accepts :
    seen (exec (.hdrB09S0 0b11011#5 0#1 0#9) (scanning f417 0 0)) = some (417, 1, 417) ∧
    seen (exec (.hdrB09S0 0b11011#5 0#1 0#9) (scanning ([0xFF#8] ++ f417) 1 0)) = some (418, 1, 418) := by decide +kernel
/-- S4, S12: one byte short. -/
theorem test_hdrB09S0_suspends :
    seen (exec (.hdrB09S0 0b11011#5 0#1 0#9) (scanning (f417.take 416) 0 0)) = some (0, 0, 416) ∧
    seen (exec (.hdrB09S0 0b11011#5 1#1 0#9) (scanning f417 0 0)) = some (0, 0, 417) := by decide +kernel
/-- S1, S2, S6, S8: below the floor. -/
theorem test_exhaust :
    (scanStep (scanning [] 0 0)).1 = .exhaust ∧ (scanStep (scanning [0xFF#8, 0xFB#8, 0x90#8] 0 0)).1 = .exhaust ∧
    (scanStep (scanning f417 417 1)).1 = .exhaust ∧
    (scanStep (scanning (f417 ++ [0#8, 0#8, 0#8]) 417 1)).1 = .exhaust := by decide +kernel
/-- Every `VALID` row jumps by its own length: the bases of R91, on 1441 bytes. -/
theorem test_valid_rows_jump :
    ([.hdrB01S0 0#5 0#1 0#9, .hdrB01S1 0#5 0#1 0#9, .hdrB01S2 0#5 0#1 0#9, .hdrB02S0 0#5 0#1 0#9, .hdrB02S1 0#5 0#1 0#9,
      .hdrB02S2 0#5 0#1 0#9, .hdrB03S0 0#5 0#1 0#9, .hdrB03S1 0#5 0#1 0#9, .hdrB03S2 0#5 0#1 0#9, .hdrB04S0 0#5 0#1 0#9,
      .hdrB04S1 0#5 0#1 0#9, .hdrB04S2 0#5 0#1 0#9, .hdrB05S0 0#5 0#1 0#9, .hdrB05S1 0#5 0#1 0#9, .hdrB05S2 0#5 0#1 0#9,
      .hdrB06S0 0#5 0#1 0#9, .hdrB06S1 0#5 0#1 0#9, .hdrB06S2 0#5 0#1 0#9, .hdrB07S0 0#5 0#1 0#9, .hdrB07S1 0#5 0#1 0#9,
      .hdrB07S2 0#5 0#1 0#9].map (fun i => (seen (exec i (scanning (List.replicate 1441 0#8) 0 0))).map Prod.fst)) =
    [104, 96, 144, 130, 120, 180, 156, 144, 216, 182, 168, 252, 208, 192, 288, 261, 240, 360, 313, 288, 432].map some ∧
    ([.hdrB08S0 0#5 0#1 0#9, .hdrB08S1 0#5 0#1 0#9, .hdrB08S2 0#5 0#1 0#9, .hdrB09S0 0#5 0#1 0#9, .hdrB09S1 0#5 0#1 0#9,
      .hdrB09S2 0#5 0#1 0#9, .hdrB10S0 0#5 0#1 0#9, .hdrB10S1 0#5 0#1 0#9, .hdrB10S2 0#5 0#1 0#9, .hdrB11S0 0#5 0#1 0#9,
      .hdrB11S1 0#5 0#1 0#9, .hdrB11S2 0#5 0#1 0#9, .hdrB12S0 0#5 0#1 0#9, .hdrB12S1 0#5 0#1 0#9, .hdrB12S2 0#5 0#1 0#9,
      .hdrB13S0 0#5 0#1 0#9, .hdrB13S1 0#5 0#1 0#9, .hdrB13S2 0#5 0#1 0#9, .hdrB14S0 0#5 0#1 0#9, .hdrB14S1 0#5 0#1 0#9,
      .hdrB14S2 0#5 1#1 0#9].map (fun i => (seen (exec i (scanning (List.replicate 1441 0#8) 0 0))).map Prod.fst)) =
    [365, 336, 504, 417, 384, 576, 522, 480, 720, 626, 576, 864, 731, 672, 1008, 835, 768, 1152, 1044, 960, 1441].map some := by
  decide +kernel
/-- K1, K2 (with fewer zero bytes): `COMPACT`. -/
theorem test_compact :
    compact { scanning (f96 ++ [0xAA#8, 0xBB#8, 0xCC#8]) 96 1 with consumed := 5 } =
      { scanning [0xAA#8, 0xBB#8, 0xCC#8] 0 1 with consumed := 101 } ∧
    compact { scanning [0xFF#8, 0xFB#8, 0x90#8, 0#8, 0#8] 0 0 with consumed := 50 } =
      { scanning [0xFF#8, 0xFB#8, 0x90#8, 0#8, 0#8] 0 0 with consumed := 50 } := by decide +kernel

/-! ### Commands -/

/-- P2, byte-serial: the 96th beat counts the frame; the beat before leaves 95 bytes. -/
theorem test_data_completes_a_frame :
    nextOf (exec (.data 0#8) { State.reset with pending := f96.take 95, nonEmpty := true }) = some counted := by
  decide +kernel
/-- X5 to X8 in small: a byte below the floor stays. -/
theorem test_data_first_byte :
    nextOf (exec (.data 0xFF#8) State.reset) = some { State.reset with pending := [0xFF#8], nonEmpty := true } := by decide
/-- T1, T3: `EMPTY_INPUT` with nothing received, `NO_FRAMES_FOUND` with one byte. -/
theorem test_eos_failures :
    nextOf (exec (.eos 0#8) State.reset) = some { State.reset with phase := .done, result := .emptyInput } ∧
    nextOf (exec (.eos 0#8) { State.reset with pending := [0xFF#8], nonEmpty := true }) =
      some { State.reset with phase := .done, result := .noFramesFound, nonEmpty := true, consumed := 1 } := by decide
/-- T8: `OK` with a frame counted; the trailing byte is discarded. -/
theorem test_eos_success :
    nextOf (exec (.eos 0#8) { counted with pending := [0#8] }) =
      some { counted with consumed := 97, phase := .done, result := .ok } := by decide
/-- T9, T10: failure beats a count and beats empty input. -/
theorem test_fail :
    nextOf (exec (.fail 0x2A#8) counted) =
      some { counted with phase := .done, result := .sourceReadFailure, failCause := 0x2A#8 } ∧
    nextOf (exec (.fail 0x07#8) State.reset) =
      some { State.reset with phase := .done, result := .sourceReadFailure, failCause := 0x07#8 } := by decide
/-- R128 at transaction level, with a cause of 12 bits: it is stored as it is given. -/
theorem test_fail_wide_cause :
    (Command.fail 0xABC#12).apply (State.resetAt 12) =
      { State.resetAt 12 with phase := .done, result := .sourceReadFailure, failCause := 0xABC#12 } := by decide
/-- R139. -/
theorem test_rsvd3 : nextOf (exec (.rsvd3 0#8) suspended) = some suspended := by decide
/-- T13: RESET forgets everything. -/
theorem test_reset : nextOf (exec .reset doneFail) = some State.reset := by decide
/-- T11: commands in `DONE` are ignored. -/
theorem test_done_ignores :
    nextOf (exec (.data 0#8) doneOk) = some doneOk ∧ nextOf (exec (.fail 1#8) doneOk) = some doneOk := by decide
/-- R130. -/
theorem test_output :
    doneOk.output = some (.count 1) ∧ doneFail.output = some (.sourceReadFailure 0x2A#8) ∧ counted.output = none := by decide
/-- R174: no count on the port where it does not fit. -/
theorem test_frame_count_port :
    ({ counted with frameCount := 255 }.ports 8).frameCount = some 255#8 ∧
    ({ counted with frameCount := 256 }.ports 8).frameCount = none := by decide
/-- R77: the notation's frame is the source's. -/
theorem test_stimulus_frame : stimFrame 9#4 0#2 0#1 = f417 := by decide +kernel
/-- R179: the window machine on the four bytes of a header waits for the rest of its frame. -/
theorem test_window_header :
    (Window.reset : Window).apply (.chunk [0xFF#8, 0xE0#8, 0x14#8, 0x00#8]) =
      { Window.reset with skip := 92, nonEmpty := true } := by decide

/-! ### One step of the machine on a placed word -/

theorem test_step_placed_nosync :
    nextOf (step (State.reset.withFetchWord 32 0x12349000)) =
      some (scanning [0x12#8, 0x34#8, 0x90#8, 0#8] 1 0) := by decide
/-- S3: four bytes of a valid header suspend; the scan of this CHUNK is over. -/
theorem test_step_placed_valid :
    nextOf (step (State.reset.withFetchWord 32 0xFFE01400)) = some suspended := by decide
theorem test_step_placed_beat :
    nextOf (step (State.reset.withFetchWord 8 1)) = some { State.reset with phase := .done, result := .emptyInput } := by decide
theorem test_step_placed_reset : nextOf (step (doneFail.withFetchWord 1 1)) = some State.reset := by decide

/-! ### A beat presented while `rst` is 1 (R135, R170)

The sample performs RESET and nothing else; the beat happens on the next edge, or the trace is refused (U13). -/

/-- An `EOS` beat presented on an edge with `rst = 1`. -/
def heldEos : State := { doneFail with inputs := [.edge ⟨true, true, 1#2, 0#8⟩] }
/-- Right after that edge, with the next sample to come. -/
def afterHeldEos (next : PortIn) : State := { State.reset with inputs := [.edge next], presented := some ⟨1#2, 0#8⟩ }

theorem test_rst_edge_remembers_the_beat :
    nextOf (step heldEos) = some { State.reset with presented := some ⟨1#2, 0#8⟩ } := by decide
theorem test_held_beat_happens :
    nextOf (step (afterHeldEos ⟨false, true, 1#2, 0#8⟩)) =
      some { State.reset with phase := .done, result := .emptyInput } := by decide
theorem test_dropped_beat_is_refused :
    step (afterHeldEos ⟨false, false, 1#2, 0#8⟩) = .refused .beatNotHeld ∧
    step (afterHeldEos ⟨true, false, 1#2, 0#8⟩) = .refused .beatNotHeld := ⟨rfl, rfl⟩
theorem test_changed_beat_is_refused :
    step (afterHeldEos ⟨false, true, 0#2, 0#8⟩) = .refused .beatNotHeld ∧
    step (afterHeldEos ⟨false, true, 1#2, 1#8⟩) = .refused .beatNotHeld := ⟨rfl, rfl⟩

/-! ### Well-formed states, for the witnesses -/

theorem inv_reset : State.reset.Inv where
  cursor_le := by decide
  done_iff := by decide
  cursor_zero := by decide
  done_pending := by decide
  empty := by decide
  settled := fun _ => Or.inl (by decide)
  ok_count := by decide
  failed_count := by decide
  empty_iff := by decide
  cause_zero := by decide

theorem inv_suspended : suspended.Inv where
  cursor_le := by decide
  done_iff := by decide
  cursor_zero := by decide
  done_pending := by decide
  empty := by decide
  settled := fun _ => Or.inr ⟨0xFFE01400#32, 96, by decide, by decide, by decide⟩
  ok_count := by decide
  failed_count := by decide
  empty_iff := by decide
  cause_zero := by decide

theorem inv_counted : counted.Inv where
  cursor_le := by decide
  done_iff := by decide
  cursor_zero := by decide
  done_pending := by decide
  empty := by decide
  settled := fun _ => Or.inl (by decide)
  ok_count := by decide
  failed_count := by decide
  empty_iff := by decide
  cause_zero := by decide

theorem inv_doneOk : doneOk.Inv where
  cursor_le := by decide
  done_iff := by decide
  cursor_zero := by decide
  done_pending := by decide
  empty := by decide
  settled := nofun
  ok_count := by decide
  failed_count := by decide
  empty_iff := by decide
  cause_zero := by decide

theorem inv_doneFail : doneFail.Inv where
  cursor_le := by decide
  done_iff := by decide
  cursor_zero := by decide
  done_pending := by decide
  empty := by decide
  settled := nofun
  ok_count := by decide
  failed_count := by decide
  empty_iff := by decide
  cause_zero := by decide

/-! ### Witnesses: the hypotheses of each obligation that has some, met together -/

theorem witness_DecodeEncodeRoundTrip :
    (Instr.rejBr0 31#5 2#2 1#1 511#9).wf = true ∧ (Instr.rejSr3 0#5 15#4 0#1 0#9).wf = true ∧
    (Instr.nosync21 0x1FFFFF#21).wf = true ∧ (Instr.hdrB14S2 31#5 1#1 511#9).wf = true ∧
    (Instr.data 0xFF#8).wf = true ∧ Instr.reset.wf = true := by decide

theorem witness_EncodeDecodeRoundTrip :
    decode (.hdr 0xFFFFFFFF#32) = .ok (.rejSr3 31#5 15#4 1#1 511#9) ∧ decode (.beat 3#2 0xFF#8) = .ok (.rsvd3 0xFF#8) ∧
    decode (.rst 1#1) = .ok .reset := ⟨rfl, rfl, rfl⟩

theorem witness_HeaderDecodesToItsRow :
    (decodeHeader 0xFFFFFFFF#32).hdrRow = some ⟨0xFFE00C00#32, 0xFFE00C00#32, .reject, 0⟩ ∧
    (Instr.nosync21 0#21).hdrRow = some ⟨0xFFC00000#32, 0xFFE00000#32, .nosync, 0⟩ ∧
    0xFFDFFFFF#32 &&& 0xFFE00000#32 = 0xFFC00000#32 ∧
    (Instr.hdrB14S2 0#5 0#1 0#9).hdrRow = some ⟨0xFFE0E800#32, 0xFFE0FC00#32, .valid, 1440⟩ ∧
    0xFFFFEBFF#32 &&& 0xFFE0FC00#32 = 0xFFE0E800#32 := by decide

theorem witness_IgnoredBitsHaveNoEffect :
    hdrSync 0xFFFB9000#32 = hdrSync 0xFFE091FF#32 ∧ hdrBr 0xFFFB9000#32 = hdrBr 0xFFE091FF#32 ∧
    hdrSr 0xFFFB9000#32 = hdrSr 0xFFE091FF#32 ∧ hdrPad 0xFFFB9000#32 = hdrPad 0xFFE091FF#32 := by decide

theorem witness_FrameLengthRange :
    decodeHdr 0xFFE01400#32 = .frameLength 96 ∧ decodeHdr 0xFFFFEA00#32 = .frameLength 1441 := by decide

theorem witness_DecoderPortsCarryTheDecode :
    decodeHdr 0xFFFFEA00#32 = .frameLength 1441 ∧ decodeHdr 0xFFFBF000#32 = .rejected := by decide

theorem witness_ClassifyAgreesWithTable :
    (decodeHeader 0xFFDFFFFF#32).hdrRow = some ⟨0xFFC00000#32, 0xFFE00000#32, .nosync, 0⟩ ∧
    (decodeHeader 0xFFE00000#32).hdrRow = some ⟨0xFFE00000#32, 0xFFE0F000#32, .reject, 0⟩ ∧
    (decodeHeader 0xFFFFEA00#32).hdrRow = some ⟨0xFFE0E800#32, 0xFFE0FC00#32, .valid, 1440⟩ := by decide

theorem witness_NoSyncRowsSkipOneByte :
    (Instr.nosync21 0#21).hdrKind = some .nosync ∧
    (scanning [0#8, 0#8, 0#8, 0#8] 0 0).cursor + 4 ≤ (scanning [0#8, 0#8, 0#8, 0#8] 0 0).pending.length := by decide

theorem witness_RejectRowsAdvanceOneByte :
    (Instr.rejBr0 0#5 0#2 0#1 0#9).hdrKind = some .reject ∧ (Instr.rejBr15 0#5 2#2 0#1 0#9).hdrKind = some .reject ∧
    (Instr.rejSr3 0#5 9#4 0#1 0#9).hdrKind = some .reject ∧
    (scanning [0#8, 0#8, 0#8, 0#8] 0 0).cursor + 4 ≤ (scanning [0#8, 0#8, 0#8, 0#8] 0 0).pending.length := by decide

theorem witness_ValidRowsAcceptWholeFrame :
    encode (.hdrB01S1 0#5 0#1 0#9) = .hdr 0xFFE01400#32 ∧
    (Instr.hdrB01S1 0#5 0#1 0#9).hdrRow = some ⟨0xFFE01400#32, 0xFFE0FC00#32, .valid, 96⟩ ∧
    (scanning f96 0 0).cursor + 4 ≤ (scanning f96 0 0).pending.length ∧
    (scanning f96 0 0).cursor + (96 + (hdrPad 0xFFE01400#32).toNat) ≤ (scanning f96 0 0).pending.length := by decide +kernel

theorem witness_ValidRowsSuspendWithoutChange :
    encode (.hdrB01S1 0#5 0#1 0#9) = .hdr 0xFFE01400#32 ∧
    (Instr.hdrB01S1 0#5 0#1 0#9).hdrRow = some ⟨0xFFE01400#32, 0xFFE0FC00#32, .valid, 96⟩ ∧
    (scanning (f96.take 95) 0 0).cursor + 4 ≤ (scanning (f96.take 95) 0 0).pending.length ∧
    (scanning (f96.take 95) 0 0).pending.length <
      (scanning (f96.take 95) 0 0).cursor + (96 + (hdrPad 0xFFE01400#32).toNat) := by decide +kernel

theorem witness_BelowFloorExhausts :
    (scanning [0#8, 0#8, 0#8] 0 0).pending.length < (scanning [0#8, 0#8, 0#8] 0 0).cursor + 4 ∧
    (Instr.hdrB01S1 0#5 0#1 0#9).hdrKind.isSome = true := by decide

/-- Each of the five clauses, at a boundary. -/
theorem witness_ScanStepOutcomes :
    (scanning [0xFF#8, 0xFB#8, 0x90#8] 0 0).pending.length < (scanning [0xFF#8, 0xFB#8, 0x90#8] 0 0).cursor + 4 ∧
    (memRead4 (scanning [0xFF#8, 0xDF#8, 0#8, 0#8] 0 0).pending 0 = some 0xFFDF0000#32 ∧ syncMatch 0xFFDF0000#32 = false) ∧
    (memRead4 (scanning [0xFF#8, 0xFB#8, 0xF0#8, 0#8] 0 0).pending 0 = some 0xFFFBF000#32 ∧
      syncMatch 0xFFFBF000#32 = true ∧ decodeHdr 0xFFFBF000#32 = .rejected) ∧
    (memRead4 (scanning f96 0 0).pending 0 = some 0xFFE01400#32 ∧ syncMatch 0xFFE01400#32 = true ∧
      decodeHdr 0xFFE01400#32 = .frameLength 96 ∧ 0 + 96 ≤ (scanning f96 0 0).pending.length) ∧
    (memRead4 (scanning (f96.take 95) 0 0).pending 0 = some 0xFFE01400#32 ∧
      (scanning (f96.take 95) 0 0).pending.length < 0 + 96) := by decide +kernel

theorem witness_RowMeaningIsTheScanStep :
    memRead4 suspended.pending suspended.cursor = some 0xFFE01400#32 := by decide

theorem witness_HeaderRowsFrame :
    (Instr.hdrB01S1 0#5 0#1 0#9).hdrKind.isSome = true ∧
    (nextOf (exec (.hdrB01S1 0#5 0#1 0#9) (scanning f96 0 0))).isSome = true := by decide +kernel

theorem witness_ScanLoopTerminates :
    suspended.cursor = 0 ∧ (scanStep (scanning f96 0 0)).1 = .accept 96 ∧ (scanStep (scanning f96 0 0)).1.halts = false := by
  decide +kernel

theorem witness_LoopCountsItsAccepts : (scanning f96 96 1).cursor ≤ (scanning f96 96 1).pending.length := by decide +kernel

theorem witness_FrameBodiesAreNotFetched :
    (scanning f96 0 0).cursor ≤ (scanning f96 0 0).pending.length ∧
    (0, StepOutcome.accept 96) ∈ scanTrace (scanning f96 0 0) ∧ (96, StepOutcome.exhaust) ∈ scanTrace (scanning f96 0 0) := by
  decide +kernel

/-- All of it scanned, and none of it. -/
theorem witness_CompactDropsScannedPrefix :
    (scanning f96 96 1).cursor ≤ (scanning f96 96 1).pending.length ∧ (scanning f96 0 0).cursor ≤ (scanning f96 0 0).pending.length ∧
    (scanning f96 96 1).logicalCursor ≤ 96 := by decide +kernel

theorem witness_ChunkLeavesSettledPending :
    suspended.phase = .idle ∧ suspended.cursor = 0 ∧ Settled suspended.pending :=
  ⟨rfl, rfl, inv_suspended.settled rfl⟩

theorem witness_DataIsAOneByteChunk : suspended.phase = .idle := by decide

theorem witness_DataFrame : suspended.phase = .idle ∧ suspended.cursor = 0 := by decide

/-- Each of the three outcomes. -/
theorem witness_EosEndsTheScan :
    (State.reset.phase = .idle ∧ State.reset.nonEmpty = false) ∧
    (suspended.phase = .idle ∧ suspended.nonEmpty = true ∧ suspended.frameCount = 0) ∧
    (counted.phase = .idle ∧ counted.nonEmpty = true ∧ counted.frameCount ≠ 0) := by decide

theorem witness_FailEndsTheScan : counted.phase = .idle := by decide

theorem witness_DoneIgnoresCommands :
    doneOk.phase = .done ∧ Command.reset ∉ [Command.chunk [0xFF#8], .eos, .fail 1#8, .rsvd3] := by decide

theorem witness_NoBeatWhileScanning : (scanning [0#8] 0 0).phase = .scanning := by decide

theorem witness_ZeroLengthChunkHasNoEffect : suspended.Inv ∧ doneOk.Inv := ⟨inv_suspended, inv_doneOk⟩

/-- `IDLE` with each of the three ends of a scan, and `DONE`. -/
theorem witness_PhaseTransitions :
    (State.reset.Inv ∧ State.reset.phase = .idle ∧ State.reset.nonEmpty = false) ∧
    (suspended.Inv ∧ suspended.phase = .idle ∧ suspended.nonEmpty = true ∧ suspended.frameCount = 0) ∧
    (counted.Inv ∧ counted.phase = .idle ∧ counted.nonEmpty = true ∧ 1 ≤ counted.frameCount) ∧
    (doneOk.Inv ∧ doneOk.phase = .done ∧ (Command.eos : Command) ≠ .reset) :=
  ⟨⟨inv_reset, by decide⟩, ⟨inv_suspended, by decide⟩, ⟨inv_counted, by decide⟩, ⟨inv_doneOk, by decide⟩⟩

theorem witness_OutputOnlyAtTheEnd :
    (doneOk.Inv ∧ doneOk.output = some (.count 1)) ∧ (doneFail.Inv ∧ doneFail.output = some (.sourceReadFailure 0x2A#8)) :=
  ⟨⟨inv_doneOk, by decide⟩, ⟨inv_doneFail, by decide⟩⟩

theorem witness_StepRunsTheFetchedHeader :
    (scanning f96 0 0).phase = .scanning ∧ rstAsserted (scanning f96 0 0) = false ∧
    decodeBytes ((scanning f96 0 0).pending.drop (scanning f96 0 0).cursor) = .ok (.hdrB01S1 0#5 0#1 0#9) := ⟨rfl, rfl, rfl⟩

theorem witness_StepEndsAnExhaustedScan :
    (scanning [0#8, 0#8, 0#8] 0 0).phase = .scanning ∧ rstAsserted (scanning [0#8, 0#8, 0#8] 0 0) = false ∧
    (scanning [0#8, 0#8, 0#8] 0 0).pending.length < (scanning [0#8, 0#8, 0#8] 0 0).cursor + 4 := by decide

/-- Each of the clauses: held with nothing presented and with a beat presented, and not held. -/
theorem witness_StepTakesThePortSample :
    { suspended with inputs := [.edge ⟨true, true, 0#2, 0#8⟩] }.phase ≠ .scanning ∧ suspended.presented = none ∧
    ((PortIn.mk true true 0#2 0#8).rst = true ∧ (PortIn.mk true true 0#2 0#8).inValid = true) ∧
    ((PortIn.mk true false 0#2 0#8).rst = true ∧ (PortIn.mk true false 0#2 0#8).inValid = false) ∧
    ((PortIn.mk false true 3#2 0#8).rst = false ∧ (PortIn.mk false true 3#2 0#8).inValid = true) ∧
    ((PortIn.mk false false 0#2 0#8).rst = false ∧ (PortIn.mk false false 0#2 0#8).inValid = false) ∧
    ((afterHeldEos ⟨false, true, 1#2, 0#8⟩).phase ≠ .scanning ∧
      (afterHeldEos ⟨false, true, 1#2, 0#8⟩).presented = some ⟨1#2, 0#8⟩ ∧
      keepsBeat (some ⟨1#2, 0#8⟩) (.edge ⟨false, true, 1#2, 0#8⟩) = true) ∧
    keepsBeat (some ⟨1#2, 0#8⟩) (.edge ⟨false, true, 1#2, 1#8⟩) = false := by decide

/-- With nothing presented, and with a beat held through a second edge with `rst = 1`. -/
theorem witness_ResetPinActsInEveryPhase :
    ({ scanning f96 0 0 with inputs := [rstCycle] }.inputs = .edge ⟨true, false, 0#2, 0#8⟩ :: [] ∧
      (scanning f96 0 0).presented = none) ∧
    ((afterHeldEos ⟨true, true, 1#2, 0#8⟩).inputs = .edge ⟨true, true, 1#2, 0#8⟩ :: [] ∧
      ∀ b, (afterHeldEos ⟨true, true, 1#2, 0#8⟩).presented = some b → 1#2 = b.kind ∧ 0#8 = b.data) :=
  ⟨⟨rfl, rfl⟩, rfl, fun b h => by cases h; exact ⟨rfl, rfl⟩⟩

/-- Each of the four clauses. -/
theorem witness_StepWaitsAndOpensChunks :
    (State.reset.phase ≠ .scanning ∧ State.reset.inputs = []) ∧
    ({ State.reset with inputs := [.chunk [1#8]] }.inputs = .chunk [1#8] :: [] ∧ State.reset.presented = none ∧
      State.reset.phase = .idle) ∧
    ({ doneOk with inputs := [.chunk [1#8]] }.inputs = .chunk [1#8] :: [] ∧ doneOk.presented = none ∧
      doneOk.phase = .done) ∧
    ({ afterHeldEos ⟨true, true, 1#2, 0#8⟩ with inputs := [.chunk [1#8]] }.inputs = .chunk [1#8] :: [] ∧
      (afterHeldEos ⟨true, true, 1#2, 0#8⟩).presented ≠ none) := by decide

theorem witness_StepsStopOnlyOnABeatNotHeld : State.reset.presented = none := rfl

/-- A beat presented while `rst` is 1 and held, with nothing presented before and with the beat presented already. -/
theorem witness_HeldBeatsAreNeverRefused :
    keepsProtocol none [.edge ⟨true, true, 1#2, 0#8⟩, beat 1#2 0#8, .chunk [1#8], rstCycle] = true ∧
    keepsProtocol (some ⟨1#2, 0#8⟩) [beat 1#2 0#8] = true ∧
    keepsProtocol none [.edge ⟨true, true, 1#2, 0#8⟩, beat 0#2 0#8] = false := by decide

theorem witness_LogicalCursorIsMonotonic :
    rstAsserted (scanning f96 0 0) = false ∧ step (scanning [0#8, 0#8, 0#8, 0#8] 0 0) = .next (scanning [0#8, 0#8, 0#8, 0#8] 1 0) :=
  ⟨rfl, rfl⟩

theorem witness_StepKeepsInv :
    State.Inv { suspended with inputs := [.chunk [1#8]] } ∧
    step { suspended with inputs := [.chunk [1#8]] } =
      .next { suspended with pending := suspended.pending ++ [1#8], phase := .scanning } :=
  ⟨{ inv_suspended with }, rfl⟩

theorem witness_ChunkBoundariesDoNotMatter :
    (suspended.Inv ∧ suspended.phase = .idle) ∧
    [[0xFF#8], [], [0xE0#8, 0x14#8]].flatten = [[0xFF#8, 0xE0#8], [0x14#8]].flatten := ⟨⟨inv_suspended, rfl⟩, rfl⟩

theorem witness_StepsCarryOutCommands :
    State.Inv { suspended with inputs := [Command.chunk [1#8, 2#8], .reset, .eos].flatMap Command.inputs } ∧
    suspended.phase ≠ .scanning ∧ suspended.presented = none := ⟨{ inv_suspended with }, by decide⟩

theorem witness_PortBeatsCarryOutCommands :
    State.Inv { suspended with inputs := [Command.chunk [1#8, 2#8], .eos].flatMap Command.portInputs } ∧
    suspended.phase ≠ .scanning ∧ suspended.presented = none := ⟨{ inv_suspended with }, by decide⟩

/-- One garbage byte before the shortest frame, for both clauses. -/
theorem witness_ResyncAfterGarbage :
    memRead4 f96 0 = some 0xFFE01400#32 ∧ classify 0xFFE01400#32 = .valid f96.length ∧
    (∀ p h, p < [0x01#8].length → memRead4 ([0x01#8] ++ f96) p = some h → ∀ len, classify h ≠ .valid len) ∧
    ∀ b ∈ [0x01#8], b ≠ 0xFF#8 := by
  refine ⟨by decide +kernel, by decide +kernel, fun p h hp hr len => ?_, by decide⟩
  obtain rfl : p = 0 := by simpa using hp
  obtain rfl : 0x01FFE014#32 = h := Option.some.inj hr
  rw [show classify 0x01FFE014#32 = .nosync by decide]
  nofun

/-- The first and the last cut. -/
theorem witness_BoundarySplitCountsOnce :
    memRead4 f96 0 = some 0xFFE01400#32 ∧ classify 0xFFE01400#32 = .valid f96.length ∧
    (1 ≤ 1 ∧ 1 < f96.length) ∧ (1 ≤ 95 ∧ 95 < f96.length) := by decide +kernel

end Sys2Proof.Tests
end

section
/-! SUPPORT. A header at the cursor means the scan step on it (R106): the meaning of the row it decodes to, and the step
of the machine that runs it. -/

namespace Sys2Proof.Machine

/-! ### A header's meaning is the scan step -/

/-- The mask of the second sync byte, as arithmetic (R81). -/
theorem and_0xE0_eq_iff : ∀ b : Byte, b &&& 0xE0#8 = 0xE0#8 ↔ b.toNat / 32 = 7 := by decide

/-- The sync matches exactly when the eleven bits of `SYNC` are ones (R61, R81). -/
theorem syncMatch_iff_hdrSync (hdr : Hdr) : syncMatch hdr = true ↔ hdrSync hdr = 0x7FF#11 := by
  have hlt := hdr.isLt
  rw [syncMatch, Bool.and_eq_true, beq_iff_eq, beq_iff_eq, and_0xE0_eq_iff, ← BitVec.toNat_inj, ← BitVec.toNat_inj,
    toNat_field, toNat_field, hdrSync_toNat]
  simp only [BitVec.toNat_ofNat]
  omega

/-- A row of a header whose sync matches has the effect of the decoder's answer on its fields (R68, R69). -/
theorem exec_decodeSynced (ign : BitVec 5) (br : BitVec 4) (sr : BitVec 2) (pad : BitVec 1) (low : BitVec 9) (s : State) :
    exec (decodeSynced ign br sr pad low) s = .next (sDecoded (decodeFields br sr pad) s) := by
  by_cases hsr : sr = 3#2
  · rw [(decodeFields_rejected_iff br sr pad).mpr (.inr (.inr hsr)), decodeSynced, if_pos hsr]
    rfl
  · -- one row for each legal rate and each bitrate index
    have hrates : sr = 0#2 ∨ sr = 1#2 ∨ sr = 2#2 := by revert sr; decide
    obtain ⟨⟨b, hb⟩⟩ := br
    obtain rfl | rfl | rfl := hrates <;> interval_cases b <;> rfl

/-- What both rows of a choice answer, the choice answers. -/
theorem exec_ite {c : Prop} [Decidable c] {i j : Instr} {s : State} {r : Host.Outcome State Fault Refusal}
    (hi : exec i s = r) (hj : ¬c → exec j s = r) : exec (if c then i else j) s = r := by
  split
  · exact hi
  · exact hj ‹_›

/-- With no matching sync, the row is a `NOSYNC` row: `S_SKIP` (R67, R101). -/
theorem exec_decodeHeader_of_not_sync {hdr : Hdr} (h : syncMatch hdr = false) (s : State) :
    exec (decodeHeader hdr) s = .next (sSkip s) := by
  refine exec_ite rfl fun h31 => exec_ite rfl fun h30 => exec_ite rfl fun h29 => exec_ite rfl fun h28 =>
    exec_ite rfl fun h27 => exec_ite rfl fun h26 => exec_ite rfl fun h25 => exec_ite rfl fun h24 =>
    exec_ite rfl fun h23 => exec_ite rfl fun h22 => exec_ite rfl fun h21 => ?_
  have hsync : hdrSync hdr = 0x7FF#11 := by
    simp only [getLsbD_false_iff] at h31 h30 h29 h28 h27 h26 h25 h24 h23 h22 h21
    rw [← BitVec.toNat_inj, hdrSync_toNat, BitVec.toNat_ofNat]
    omega
  rw [(syncMatch_iff_hdrSync hdr).mpr hsync] at h
  cases h

/-- The scan step's next state, from the header at the cursor (R106). -/
theorem scanStep_state {s : State} {hdr : Hdr} (h : memRead4 s.pending s.cursor = some hdr) :
    (scanStep s).2 = if syncMatch hdr then sDecoded (decodeHdr hdr) s else sSkip s := by
  have hg : loopGuard s = true := (loopGuard_iff s).mpr ((memRead4_isSome_iff s.pending s.cursor).mp ⟨hdr, h⟩)
  simp only [scanStep, (hdrFetch_eq_some_iff s hdr).mpr h]
  cases decodeHdr hdr with
  | rejected => split <;> rfl
  | frameLength len =>
    simp only [sDecoded, sValid, hg, if_true]
    split
    · split <;> rfl
    · rfl

/-- The meaning of the row that the header at the cursor decodes to is the scan step (R106). -/
theorem exec_decodeHeader {s : State} {hdr : Hdr} (h : memRead4 s.pending s.cursor = some hdr) :
    exec (decodeHeader hdr) s = .next (scanStep s).2 := by
  rw [scanStep_state h]
  match hs : syncMatch hdr with
  | true =>
    rw [decodeHeader_of_sync hdr ((syncMatch_iff_hdrSync hdr).mp hs)]
    exact exec_decodeSynced ..
  | false => exact exec_decodeHeader_of_not_sync hs s

/-- An iteration of the scan loop is the scan step, or the end of the CHUNK where that halts (R106, R109). -/
theorem scanIteration_eq (s : State) :
    scanIteration s = .next (if (scanStep s).1.halts then endScan s else (scanStep s).2) := by
  obtain ⟨hlt, hs⟩ | ⟨hdr, hr, -⟩ := scanStep_cases s
  · have hi : fetchInstr s = .error .headerTooShort := decodeBytes_short (by rw [List.length_drop]; omega)
    simp only [scanIteration, hi, hs]
    rfl
  · have hi : fetchInstr s = .ok (decodeHeader hdr) := decodeBytes_drop hr
    simp only [scanIteration, hi, exec_decodeHeader hr, afterExec]
    match hh : (scanStep s).1.halts with
    | true => simp [show scanHalts s = true from hh, scanStep_of_halts s hh]
    | false => simp [show scanHalts s = false from hh]

/-! ### A step, by the phase -/

/-- Between CHUNKs a step takes the host's next input (R53). -/
theorem step_of_not_scanning {s : State} (h : s.phase ≠ .scanning) : step s = takeInput s := by
  unfold step
  split
  · rfl
  · contradiction
  · rfl

/-- Inside a CHUNK with `rst` low a step is an iteration of the scan loop (R7). -/
theorem step_of_scanning {s : State} (h : s.phase = .scanning) (hr : rstAsserted s = false) :
    step s = scanIteration s := by
  simp [step, h, scanOrReset, hr]

/-- With `rst = 1` at the head, a step takes it in every phase (R123). -/
theorem step_of_rst {s : State} (hr : rstAsserted s = true) : step s = takeInput s := by
  unfold step
  split
  · rfl
  · simp [scanOrReset, hr]
  · rfl

/-- With no beat to hold, the oldest input takes effect. -/
theorem takeInput_of_cons {s : State} {x : Input} {rest : List Input} (hi : s.inputs = x :: rest)
    (hp : s.presented = none) : takeInput s = .next (inputEffect x { s with inputs := rest }) := by
  simp [takeInput, hi, hp, inputStep_eq]

/-- Settles O42: the fetch gives `i`, and no instruction stops. -/
theorem stepRunsTheFetchedHeader : Obligations.StepRunsTheFetchedHeader := by
  intro s i hphase hrst hfetch
  obtain ⟨t, ht⟩ := exec_next i s
  have hi : fetchInstr s = .ok i := hfetch
  refine ⟨t, ht, ?_⟩
  simp only [step_of_scanning hphase hrst, scanIteration, hi, ht]
  rfl

end Sys2Proof.Machine
end

section
/-! SUPPORT. The steps of the machine and the atomic commands (R7): `finishChunk` is the state between commands that a
state inside a CHUNK is on its way to, and each command is carried out by steps up to it. -/

namespace Sys2Proof.Machine

variable {causeW : Nat}

/-! ### The end of the CHUNK a state is in -/

/-- The state with its CHUNK, if it is inside one, carried to the end: the rest of the loop, `COMPACT`, back to `IDLE`. -/
def finishChunk (s : State) : State :=
  match s.phase with
  | .idle => s
  | .scanning => endScan (scanLoop s)
  | .done => s

theorem finishChunk_of_scanning {s : State} (h : s.phase = .scanning) : finishChunk s = endScan (scanLoop s) := by
  simp only [finishChunk, h]

theorem finishChunk_of_not_scanning {s : State} (h : s.phase ≠ .scanning) : finishChunk s = s := by
  unfold finishChunk
  split
  · rfl
  · contradiction
  · rfl

theorem finishChunk_restart (s : State) : finishChunk (restart s) = restart s := rfl

/-- A state after its CHUNK is in no CHUNK. -/
theorem finishChunk_phase (s : State) : (finishChunk s).phase ≠ .scanning := by
  by_cases h : s.phase = .scanning
  · rw [finishChunk_of_scanning h, endScan_phase]
    nofun
  · rwa [finishChunk_of_not_scanning h]

/-- The end of a CHUNK does not change the host's side. -/
theorem finishChunk_host_side (s : State) :
    (finishChunk s).inputs = s.inputs ∧ (finishChunk s).presented = s.presented := by
  by_cases h : s.phase = .scanning
  · simp [finishChunk_of_scanning h, scanLoop_frame]
  · simp [finishChunk_of_not_scanning h]

/-- The scan step does not look at the phase. -/
theorem scanStep_with_phase (s : State causeW) (p : Phase) :
    scanStep { s with phase := p } = ((scanStep s).1, { (scanStep s).2 with phase := p }) := by
  have hf : hdrFetch { s with phase := p } = hdrFetch s := rfl
  have hskip : sSkip { s with phase := p } = { sSkip s with phase := p } := by
    rw [sSkip, sSkip, show loopGuard { s with phase := p } = loopGuard s from rfl]
    split <;> rfl
  unfold scanStep
  rw [hf, sReject_eq_sSkip, sReject_eq_sSkip, hskip]
  split
  · rfl
  · split
    · split
      · rfl
      · split <;> rfl
    · rfl

/-- The scan loop does not look at the phase. -/
theorem scanLoop_with_phase (s : State causeW) (p : Phase) :
    scanLoop { s with phase := p } = { scanLoop s with phase := p } := by
  refine scanLoop_induction (P := fun s => scanLoop { s with phase := p } = { scanLoop s with phase := p }) ?_ ?_ s
  · intro s h
    rw [scanLoop_unroll, scanLoop_unroll s, scanStep_with_phase]
    simp [h]
  · intro s h ih
    rw [scanLoop_unroll, scanLoop_unroll s, scanStep_with_phase]
    simp [h, ih]

/-- A CHUNK that is opened and carried to the end is the atomic CHUNK (R124). -/
theorem finishChunk_openChunk (bytes : List Byte) {s : State} (h : s.phase ≠ .scanning) :
    finishChunk (openChunk bytes s) = chunkCommand bytes s := by
  match hp : s.phase with
  | .idle =>
    have hphase : (scanLoop (append bytes s)).phase = .idle := (scanLoop_frame _).2.1.trans hp
    simp only [openChunk, chunkCommand, hp]
    rw [finishChunk_of_scanning rfl, scanLoop_with_phase, scanChunk, compact, hphase]
    rfl
  | .scanning => exact absurd hp h
  | .done => simp only [openChunk, chunkCommand, hp, finishChunk_of_not_scanning h]

/-- With `rst` low, steps carry the CHUNK a state is in to its end: the loop runs one iteration a step (R7). -/
theorem runSteps_finishChunk {s : State} (hr : rstAsserted s = false) : ∃ k, runSteps k s = .next (finishChunk s) := by
  by_cases hs : s.phase = .scanning
  · rw [finishChunk_of_scanning hs]
    refine scanLoop_induction (P := fun s => rstAsserted s = false → s.phase = .scanning →
      ∃ k, runSteps k s = .next (endScan (scanLoop s))) ?_ ?_ s hr hs
    · intro s hh hr hs
      refine ⟨1, ?_⟩
      rw [runSteps_succ 0 ((step_of_scanning hs hr).trans (scanIteration_eq s)), if_pos hh, scanLoop_unroll, if_pos hh]
      rfl
    · intro s hh ih hr hs
      obtain ⟨-, hphase, -, -, -, -, hin, -⟩ := scanStep_frame s
      have hr' : rstAsserted (scanStep s).2 = false := by rwa [rstAsserted, hin]
      obtain ⟨k, hk⟩ := ih hr' (hphase.trans hs)
      refine ⟨k + 1, ?_⟩
      rw [runSteps_succ k ((step_of_scanning hs hr).trans (scanIteration_eq s)), scanLoop_unroll]
      simpa [hh] using hk
  · exact ⟨0, by rw [finishChunk_of_not_scanning hs]; rfl⟩

/-! ### One command -/

/-- No command leaves the machine inside a CHUNK (R122). -/
theorem apply_phase (c : Command causeW) {s : State causeW} (h : s.phase ≠ .scanning) : (c.apply s).phase ≠ .scanning := by
  cases c with
  | reset => nofun
  | chunk bytes =>
    simp only [Command.apply, chunkCommand]
    split
    · rwa [(scanChunk_frame bytes s).1]
    · exact h
    · exact h
  | eos =>
    simp only [Command.apply, eosCommand]
    split
    · rw [endOfData_eq]
      nofun
    · exact h
    · exact h
  | fail cause =>
    simp only [Command.apply, failCommand]
    split
    · nofun
    · exact h
    · exact h
  | rsvd3 => exact h

/-- A command is presented as one input, and that input's effect, with the CHUNK it may open carried to the end, is the
command. -/
theorem finishChunk_inputEffect (c : Command) {s : State} (hs : s.phase ≠ .scanning) (hp : s.presented = none) :
    ∃ x, c.inputs = [x] ∧ finishChunk (inputEffect x s) = c.apply s := by
  have hself : { s with presented := none } = s := by rw [← hp]
  have hdone := finishChunk_of_not_scanning (apply_phase c hs)
  cases c with
  | chunk bytes => exact ⟨_, rfl, finishChunk_openChunk bytes hs⟩
  | reset => exact ⟨_, rfl, (congrArg (fun u => finishChunk (restart u)) hself).trans hdone⟩
  | eos => exact ⟨_, rfl, (congrArg (fun u => finishChunk (eosCommand u)) hself).trans hdone⟩
  | fail cause => exact ⟨_, rfl, (congrArg (fun u => finishChunk (failCommand cause u)) hself).trans hdone⟩
  | rsvd3 => exact ⟨_, rfl, (congrArg finishChunk hself).trans hdone⟩

/-- Between CHUNKs a command is begun by one step. -/
theorem step_command {c : Command} {s : State} {rest : List Input} (hs : s.phase ≠ .scanning) (hp : s.presented = none)
    (hi : s.inputs = c.inputs ++ rest) :
    ∃ t, step s = .next t ∧ finishChunk t = c.apply { s with inputs := rest } := by
  obtain ⟨x, hx, heffect⟩ := finishChunk_inputEffect c (s := { s with inputs := rest }) hs hp
  rw [hx] at hi
  exact ⟨_, (step_of_not_scanning hs).trans (takeInput_of_cons hi hp), heffect⟩

/-- The one command that puts `rst = 1` at the head is RESET. -/
theorem eq_reset_of_rstAsserted {c : Command} {s : State} {rest : List Input} (hi : s.inputs = c.inputs ++ rest)
    (hr : rstAsserted s = true) : c = .reset := by
  rw [rstAsserted, hi] at hr
  cases c with
  | reset => rfl
  | chunk bytes => cases hr
  | eos => cases hr
  | fail cause => cases hr
  | rsvd3 => cases hr

/-- RESET keeps the host's side and nothing else. -/
theorem restart_congr {s t : State causeW} (hi : s.inputs = t.inputs) (hp : s.presented = t.presented) :
    restart s = restart t := by
  rw [restart, restart, hi, hp]

/-- From any state, inside a CHUNK or not, a command is carried out after what is left of that CHUNK. RESET does not
wait for it (log entry 9), but leaves nothing of it. -/
theorem runSteps_command {c : Command} {s : State} {rest : List Input} (hp : s.presented = none)
    (hi : s.inputs = c.inputs ++ rest) :
    ∃ k t, runSteps k s = .next t ∧ finishChunk t = c.apply { finishChunk s with inputs := rest } := by
  obtain ⟨hin, hpres⟩ := finishChunk_host_side s
  match hr : rstAsserted s with
  | true =>
    obtain rfl := eq_reset_of_rstAsserted hi hr
    refine ⟨1, _, runSteps_succ 0 ((step_of_rst hr).trans (takeInput_of_cons hi hp)), ?_⟩
    exact (finishChunk_restart _).trans (restart_congr rfl (hpres.trans hp).symm)
  | false =>
    obtain ⟨k, hk⟩ := runSteps_finishChunk hr
    obtain ⟨t, ht, hfinish⟩ := step_command (finishChunk_phase s) (hpres.trans hp) (hin.trans hi)
    exact ⟨k + 1, t, (runSteps_add k 1 hk).trans (runSteps_succ 0 ht), hfinish⟩

/-! ### A command sequence -/

/-- From any state with no beat to hold, the machine carries out a command sequence after what is left of its CHUNK. -/
theorem runSteps_commands (cs : List Command) (s : State) (hp : s.presented = none)
    (hi : s.inputs = cs.flatMap Command.inputs) :
    ∃ k, runSteps k s = .next (runCommands cs { finishChunk s with inputs := [] }) := by
  induction cs generalizing s with
  | nil =>
    have hself : { finishChunk s with inputs := [] } = finishChunk s := by
      rw [← show (finishChunk s).inputs = [] from (finishChunk_host_side s).1.trans hi]
    rw [runCommands, hself]
    exact runSteps_finishChunk (by rw [rstAsserted, hi]; rfl)
  | cons c cs ih =>
    obtain ⟨k, t, hk, ht⟩ := runSteps_command hp hi
    obtain ⟨hin, hpres⟩ := finishChunk_host_side t
    rw [ht] at hin hpres
    obtain ⟨hin', hpres'⟩ := apply_host_side c { finishChunk s with inputs := cs.flatMap Command.inputs }
    obtain ⟨m, hm⟩ := ih t (hpres.symm.trans (hpres'.trans ((finishChunk_host_side s).2.trans hp)))
      (hin.symm.trans hin')
    refine ⟨k + m, (runSteps_add k m hk).trans (hm.trans ?_)⟩
    rw [ht, ← apply_with_inputs]
    rfl

/-- Settles O56: outside `SCANNING` there is no CHUNK to carry to the end first. -/
theorem stepsCarryOutCommands : Obligations.StepsCarryOutCommands := by
  intro cs s _ hs hp hi
  have h := runSteps_commands cs s hp hi
  rwa [finishChunk_of_not_scanning hs] at h

end Sys2Proof.Machine
end

section
/-! SUPPORT. The state's own statements: its reset values, the status word, the frame of the header rows, and what the
scan loop counts. -/

namespace Sys2Proof.Machine

variable {causeW : Nat}

/-! ### Reset and status -/

/-- Settles O28, element by element from the rules of the reset state. -/
theorem resetValues : Obligations.ResetValues := by
  intro causeW
  simp

/-- Settles O29: `RESET` is `restart` in every phase, at transaction level and as a row. -/
theorem resetRestoresEveryElement : Obligations.ResetRestoresEveryElement :=
  ⟨fun _ => rfl, fun _ => rfl⟩

/-- The low three bits of `STATUS` are the code of the result (R31). -/
theorem status_code (s : State causeW) : s.status.extractLsb' 0 3 = s.result.code :=
  BitVec.extractLsb'_append_eq_right

/-- Bit 3 of `STATUS` is `done` (R31). -/
theorem status_getLsbD_done (s : State causeW) : s.status.getLsbD 3 = s.done :=
  BitVec.getLsbD_append.trans (by simp)

/-- `done` is high exactly in `DONE` (R32). -/
theorem done_iff_phase (s : State causeW) : s.done = true ↔ s.phase = .done := by
  rw [State.done, beq_iff_eq]

/-- Settles O41: the codes and the status of the reset state are computed, the layout is that of the concatenation. -/
theorem statusCodes : Obligations.StatusCodes := by
  refine ⟨rfl, fun s => ⟨status_code s, ?_⟩, rfl⟩
  rw [status_getLsbD_done, done_iff_phase]

/-! ### The header rows -/

/-- A `NOSYNC` row means `S_SKIP` (R67, R101). -/
theorem exec_of_nosync {i : Instr} (h : i.hdrKind = some .nosync) (s : State) : exec i s = .next (sSkip s) := by
  cases i <;> cases h <;> rfl

/-- A `REJECT` row means `S_REJECT` (R68, R102). -/
theorem exec_of_reject {i : Instr} (h : i.hdrKind = some .reject) (s : State) : exec i s = .next (sReject s) := by
  cases i <;> cases h <;> rfl

/-- A `VALID` row means `S_ACCEPT` or `S_SUSPEND` with the row's length (R69, R103, R104). -/
theorem exec_of_valid {i : Instr} (h : i.hdrKind = some .valid) (s : State) :
    ∃ len, exec i s = .next (sValid len s) := by
  cases i <;> cases h <;> exact ⟨_, rfl⟩

/-- A valid header counts one frame or none (R103, R104). -/
theorem sValid_frameCount (len : Nat) (s : State causeW) :
    (sValid len s).frameCount = s.frameCount ∨ (sValid len s).frameCount = s.frameCount + 1 := by
  unfold sValid
  split
  · split
    · exact .inr rfl
    · exact .inl rfl
  · exact .inl rfl

/-- A byte is found by `pending` and the count of bytes dropped before it (R38, R39). -/
theorem byteAt_congr {s t : State causeW} (hp : t.pending = s.pending) (hc : t.consumed = s.consumed) (offset : Nat) :
    t.byteAt offset = s.byteAt offset := by
  rw [State.byteAt, State.byteAt, hp, hc]

/-- Settles O22, by the kind of the row: `S_SKIP`, `S_REJECT` and the effect of a valid header each have the frame, and
only the last one counts. -/
theorem headerRowsFrame : Obligations.HeaderRowsFrame := by
  intro i s t hkind hexec
  match hk : i.hdrKind with
  | some .nosync =>
    rw [exec_of_nosync hk] at hexec
    cases hexec
    simp [byteAt_congr (sSkip_pending s) (sSkip_consumed s)]
  | some .reject =>
    rw [exec_of_reject hk] at hexec
    cases hexec
    simp [byteAt_congr (sReject_pending s) (sReject_consumed s)]
  | some .valid =>
    obtain ⟨len, hlen⟩ := exec_of_valid hk s
    rw [hlen] at hexec
    cases hexec
    simp [byteAt_congr (sValid_pending len s) (sValid_consumed len s), sValid_frameCount]
  | none => simp [hk] at hkind

/-! ### What the loop counts -/

/-- A scan step counts a frame exactly when its outcome is `ACCEPT` (R111). -/
theorem scanStep_frameCount (s : State causeW) :
    (scanStep s).2.frameCount = s.frameCount + if (scanStep s).1.isAccept then 1 else 0 := by
  obtain ⟨-, h⟩ | ⟨-, -, -, ⟨-, h⟩ | ⟨-, h⟩ | ⟨len, -, -, -, h⟩ | ⟨len, -, -, -, h⟩⟩ := scanStep_cases s <;>
    rw [h] <;> rfl

/-- The count of `ACCEPT` outcomes unrolled once: this step's, then those of the rest of the loop. -/
theorem acceptCount_unroll (s : State causeW) :
    acceptCount s = (if (scanStep s).1.halts then 0 else acceptCount (scanStep s).2) +
      if (scanStep s).1.isAccept then 1 else 0 := by
  rw [acceptCount, scanTrace_unroll, List.countP_cons]
  split <;> rfl

/-- Along the loop, each step adds to the counter what it adds to the count of `ACCEPT` outcomes (R22, R111). -/
theorem scanLoop_frameCount (s : State causeW) : (scanLoop s).frameCount = s.frameCount + acceptCount s := by
  refine scanLoop_induction (P := fun s => (scanLoop s).frameCount = s.frameCount + acceptCount s) ?_ ?_ s
  · intro s h
    have hcount := scanStep_frameCount s
    rw [scanStep_of_halts s h] at hcount
    rw [scanLoop_unroll, acceptCount_unroll, if_pos h, if_pos h]
    omega
  · intro s h ih
    rw [scanStep_frameCount] at ih
    rw [scanLoop_unroll, acceptCount_unroll]
    simp only [h, Bool.false_eq_true, if_false]
    omega

/-- Settles O24; the count needs no bound on the cursor. -/
theorem loopCountsItsAccepts : Obligations.LoopCountsItsAccepts :=
  fun s _ => scanLoop_frameCount s

end Sys2Proof.Machine
end

section
/-! SUPPORT. The well-formed states (R36, log entry 25): each operation keeps them, so that every command and every step
does. -/

namespace Sys2Proof.Machine

variable {causeW : Nat}

/-! ### Reset and the host's side -/

/-- The reset state is well formed, at every `CAUSE_W` (R35, R36). -/
theorem inv_resetAt (causeW : Nat) : (State.resetAt causeW).Inv where
  cursor_le := Nat.le_refl 0
  done_iff := by simp
  cursor_zero _ := rfl
  done_pending _ := rfl
  empty _ := ⟨rfl, rfl, rfl⟩
  settled _ := .inl (by simp)
  ok_count h := by cases h
  failed_count _ := rfl
  empty_iff := by simp
  cause_zero _ := rfl

/-- Settles O50, at the port's `CAUSE_W`. -/
theorem invHoldsAtReset : Obligations.InvHoldsAtReset := inv_resetAt _

/-- `RESET` gives a well-formed state from any state (R123). -/
theorem inv_restart (s : State causeW) : (restart s).Inv := { inv_resetAt causeW with }

/-- The invariant does not look at the host's side of the port. -/
theorem State.Inv.with_host_side {s : State causeW} (h : s.Inv) (inputs : List Input) (presented : Option Beat) :
    State.Inv { s with inputs := inputs, presented := presented } := { h with }

/-- The result is open outside `DONE` (R36 item 2). -/
theorem State.Inv.result_none {s : State causeW} (h : s.Inv) (hp : s.phase ≠ .done) : s.result = .none := by
  by_contra hr
  exact hp (h.done_iff.mpr hr)

/-- Between CHUNKs, `IDLE` is the phase of an open result. -/
theorem State.Inv.idle_iff {s : State causeW} (h : s.Inv) (hp : s.phase ≠ .scanning) :
    s.phase = .idle ↔ s.result = .none := by
  refine ⟨fun hi => h.result_none (by simp [hi]), fun hr => ?_⟩
  match hphase : s.phase with
  | .idle => rfl
  | .scanning => exact absurd hphase hp
  | .done => exact absurd hr (h.done_iff.mp hphase)

/-! ### The CHUNK -/

/-- No chunk byte clears the flag, and it stays low only for an empty chunk (R26). -/
theorem nonEmptyAfter_eq_false {old : Bool} {chunk : List Byte} :
    nonEmptyAfter old chunk = false ↔ old = false ∧ chunk = [] := by
  simp [nonEmptyAfter]

/-- Opening a CHUNK in `IDLE` keeps the invariant: its scan starts at the cursor 0 with the result open (R124). -/
theorem State.Inv.append_scanning {s : State causeW} (h : s.Inv) (hp : s.phase = .idle) (chunk : List Byte) :
    State.Inv { append chunk s with phase := .scanning } := by
  have hr := h.result_none (by simp [hp])
  exact {
    cursor_le := by simpa using Nat.le_add_right_of_le h.cursor_le
    done_iff := by simp [hr]
    cursor_zero := by simp
    done_pending := by simp
    empty := by
      intro hne
      obtain ⟨hold, rfl⟩ := nonEmptyAfter_eq_false.mp hne
      simpa using h.empty hold
    settled := by simp
    ok_count := h.ok_count
    failed_count := h.failed_count
    empty_iff := by simp [hr]
    cause_zero := h.cause_zero }

/-- Where the scan step continues there are bytes, so something was delivered. -/
theorem State.Inv.nonEmpty_of_continues {s : State causeW} (h : s.Inv) (hh : (scanStep s).1.halts = false) :
    s.nonEmpty = true := by
  by_contra hne
  have hpending := (h.empty (by simpa using hne)).1
  have hprogress := scanStep_progress s hh
  simp only [hpending, List.length_nil] at hprogress
  omega

/-- A scan step inside a CHUNK keeps the invariant: the cursor stays inside `pending` (R108, R114). -/
theorem State.Inv.scanStep {s : State causeW} (h : s.Inv) (hp : s.phase = .scanning) : (scanStep s).2.Inv := by
  match hh : (Machine.scanStep s).1.halts with
  | true => rwa [scanStep_of_halts s hh]
  | false =>
    obtain ⟨hpending, hphase, hresult, hnonEmpty, hcause, -, -, -⟩ := scanStep_frame s
    have hr := h.result_none (by simp [hp])
    have hne := h.nonEmpty_of_continues hh
    have hprogress := scanStep_progress s hh
    exact {
      cursor_le := by rw [hpending]; exact hprogress.2
      done_iff := by simp [hphase, hresult, hp, hr]
      cursor_zero := by simp [hphase, hp]
      done_pending := by simp [hphase, hp]
      empty := by simp [hnonEmpty, hne]
      settled := by simp [hphase, hp]
      ok_count := by simp [hresult, hr]
      failed_count := by simp [hresult, hr]
      empty_iff := by simp [hresult, hphase, hr, hp]
      cause_zero := by rw [hresult, hcause]; exact h.cause_zero }

/-- The scan loop inside a CHUNK keeps the invariant. -/
theorem State.Inv.scanLoop {s : State causeW} (h : s.Inv) (hp : s.phase = .scanning) : (scanLoop s).Inv := by
  refine scanLoop_induction (P := fun s => s.Inv → s.phase = .scanning → (Machine.scanLoop s).Inv) ?_ ?_ s h hp
  · intro s hh h _
    rwa [scanLoop_unroll, if_pos hh]
  · intro s hh ih h hp
    rw [scanLoop_unroll, if_neg (by simp [hh])]
    exact ih (h.scanStep hp) ((scanStep_frame s).2.1.trans hp)

/-- What is left from the cursor on where the scan step halts is settled (R113): below the floor, or a frame
still suspended. -/
theorem settled_of_halts {s : State causeW} (hh : (scanStep s).1.halts = true) : Settled (s.pending.drop s.cursor) := by
  obtain ⟨hlt, -⟩ | ⟨hdr, hread, hle, ⟨-, e⟩ | ⟨-, e⟩ | ⟨len, -, -, -, e⟩ | ⟨len, hclass, -, hshort, -⟩⟩ :=
    scanStep_cases s
  · left
    rw [List.length_drop]
    omega
  · rw [e] at hh; cases hh
  · rw [e] at hh; cases hh
  · rw [e] at hh; cases hh
  · right
    refine ⟨hdr, len, (memRead4_drop ..).trans hread, hclass, ?_⟩
    rw [List.length_drop]
    omega

/-- The end of a CHUNK whose loop has halted keeps the invariant: what `COMPACT` leaves is settled (R109, R113). -/
theorem State.Inv.endScan {s : State causeW} (h : s.Inv) (hp : s.phase = .scanning)
    (hh : (Machine.scanStep s).1.halts = true) : (endScan s).Inv := by
  have hr := h.result_none (by simp [hp])
  have hle := h.cursor_le
  exact {
    cursor_le := Nat.zero_le _
    done_iff := by simp [hr]
    cursor_zero := fun _ => rfl
    done_pending := by simp
    empty := by
      intro hne
      obtain ⟨hpending, hcount, hconsumed⟩ := h.empty hne
      rw [hpending, List.length_nil] at hle
      simp only [endScan_pending, endScan_frameCount, endScan_consumed, hpending, List.drop_nil, true_and]
      omega
    settled := fun _ => settled_of_halts hh
    ok_count := h.ok_count
    failed_count := h.failed_count
    empty_iff := by simp [hr]
    cause_zero := h.cause_zero }

/-- A CHUNK in `IDLE` is the scan of its opened state, carried to the end (R24, R124). -/
theorem scanChunk_eq_endScan (chunk : List Byte) {s : State causeW} (hp : s.phase = .idle) :
    scanChunk chunk s = endScan (scanLoop { append chunk s with phase := .scanning }) := by
  have hphase : (scanLoop (append chunk s)).phase = .idle := (scanLoop_frame _).2.1.trans hp
  rw [scanLoop_with_phase, scanChunk, compact, hphase]
  rfl

/-- A CHUNK in `IDLE` keeps the invariant. -/
theorem State.Inv.scanChunk {s : State causeW} (h : s.Inv) (hp : s.phase = .idle) (chunk : List Byte) :
    (scanChunk chunk s).Inv := by
  rw [scanChunk_eq_endScan chunk hp]
  exact ((h.append_scanning hp chunk).scanLoop rfl).endScan (scanLoop_frame _).2.1 (scanLoop_halts _)

/-! ### The end of a scan -/

/-- Terminal entry from `IDLE` keeps the invariant when the outcome is final and fits the counter and the flag, and when
only a read failure has a cause (R36 items 2 and 7, R28). -/
theorem State.Inv.terminate {s : State causeW} (h : s.Inv) (hp : s.phase = .idle) {r : Result} {cause : Cause causeW}
    (hfinal : r ≠ .none) (hok : r = .ok → 1 ≤ s.frameCount)
    (hfailed : r = .emptyInput ∨ r = .noFramesFound → s.frameCount = 0)
    (hempty : r = .emptyInput ↔ s.nonEmpty = false ∧ r ≠ .sourceReadFailure)
    (hcause : r ≠ .sourceReadFailure → cause = 0#causeW) :
    State.Inv { terminate r s with failCause := cause } where
  cursor_le := Nat.le_of_eq (h.cursor_zero (by simp [hp]))
  done_iff := by simp [hfinal]
  cursor_zero _ := h.cursor_zero (by simp [hp])
  done_pending _ := rfl
  empty hne := by
    obtain ⟨hpending, hcount, hconsumed⟩ := h.empty hne
    simp [hpending, hcount, hconsumed]
  settled := by simp
  ok_count := hok
  failed_count := hfailed
  empty_iff := by simpa using hempty
  cause_zero := hcause

/-- The end-of-data marker's outcomes, in the order of R126. -/
theorem eosResult_cases (nonEmpty : Bool) (frameCount : Nat) :
    (nonEmpty = false ∧ eosResult nonEmpty frameCount = .emptyInput) ∨
    (nonEmpty = true ∧ frameCount = 0 ∧ eosResult nonEmpty frameCount = .noFramesFound) ∨
    (nonEmpty = true ∧ 1 ≤ frameCount ∧ eosResult nonEmpty frameCount = .ok) := by
  match nonEmpty, frameCount with
  | false, _ => exact .inl ⟨rfl, rfl⟩
  | true, 0 => exact .inr (.inl ⟨rfl, rfl, rfl⟩)
  | true, n + 1 => exact .inr (.inr ⟨rfl, Nat.succ_pos n, rfl⟩)

/-- `EOS` in `IDLE` keeps the invariant, by its three outcomes (R126). -/
theorem State.Inv.endOfData {s : State causeW} (h : s.Inv) (hp : s.phase = .idle) : (endOfData s).Inv := by
  have hcause : s.failCause = 0#causeW := h.cause_zero (by simp [h.result_none, hp])
  rw [endOfData_eq]
  obtain ⟨hne, e⟩ | ⟨hne, hcount, e⟩ | ⟨hne, hcount, e⟩ := eosResult_cases s.nonEmpty s.frameCount <;> rw [e]
  · exact h.terminate hp (by simp) (by simp) (fun _ => (h.empty hne).2.1) (by simp [hne]) fun _ => hcause
  · exact h.terminate hp (by simp) (by simp) (fun _ => hcount) (by simp [hne]) fun _ => hcause
  · exact h.terminate hp (by simp) (fun _ => hcount) (by simp) (by simp [hne]) fun _ => hcause

/-! ### Commands and steps -/

/-- Every command keeps the invariant; outside `IDLE`, all but `RESET` change nothing (R129, log entry 8). -/
theorem State.Inv.apply {s : State causeW} (h : s.Inv) (c : Command causeW) : (c.apply s).Inv := by
  cases c with
  | reset => exact inv_restart s
  | chunk bytes =>
    simp only [Command.apply, chunkCommand]
    split
    · exact h.scanChunk ‹_› bytes
    · exact h
    · exact h
  | eos =>
    simp only [Command.apply, eosCommand]
    split
    · exact h.endOfData ‹_›
    · exact h
    · exact h
  | fail cause =>
    simp only [Command.apply, failCommand]
    split
    · exact h.terminate ‹_› (by simp) (by simp) (by simp) (by simp) (by simp)
    · exact h
    · exact h
  | rsvd3 => exact h

/-- What holds of a state and is kept by every command holds after every command sequence. -/
theorem runCommands_induction {P : State causeW → Prop} (keeps : ∀ c s, P s → P (Command.apply c s))
    (cs : List (Command causeW)) {s : State causeW} (h : P s) : P (runCommands cs s) := by
  induction cs generalizing s with
  | nil => exact h
  | cons c cs ih => exact ih (keeps c s h)

/-- Settles O52: the reset state is well formed and in no CHUNK, and every command keeps both. -/
theorem reachableStatesAreWellFormed : Obligations.ReachableStatesAreWellFormed := by
  intro causeW cs
  obtain ⟨hinv, hphase⟩ : (runCommands cs (State.resetAt causeW)).Inv ∧
      (runCommands cs (State.resetAt causeW)).phase ≠ .scanning :=
    runCommands_induction (P := fun s => s.Inv ∧ s.phase ≠ .scanning)
      (fun c _ h => ⟨h.1.apply c, apply_phase c h.2⟩) cs ⟨inv_resetAt causeW, by simp⟩
  exact ⟨hinv, hphase, hinv.idle_iff hphase, hinv.cursor_zero hphase⟩

/-- A port sample that is taken is a command: RESET, that of its beat, or, with no beat, the reserved one, which has no
effect (R134 to R136, R139). -/
theorem edgeEffect_eq_apply (p : PortIn) (s : State) : ∃ c : Command, edgeEffect p s = c.apply s := by
  unfold edgeEffect
  split
  · exact ⟨.reset, rfl⟩
  · split
    · split
      · exact ⟨.chunk [p.inData], rfl⟩
      · exact ⟨.eos, rfl⟩
      · exact ⟨.fail p.inData, rfl⟩
      · exact ⟨.rsvd3, rfl⟩
    · exact ⟨.rsvd3, rfl⟩

/-- An input that is taken keeps the invariant. -/
theorem State.Inv.inputEffect {s : State} (h : s.Inv) (x : Input) : (inputEffect x s).Inv := by
  cases x with
  | edge p =>
    obtain ⟨c, hc⟩ := edgeEffect_eq_apply p { s with presented := presentedAfter p }
    rw [Machine.inputEffect, hc]
    exact (h.with_host_side s.inputs (presentedAfter p)).apply c
  | chunk bytes =>
    simp only [Machine.inputEffect, openChunk]
    split
    · exact h.append_scanning ‹_› bytes
    · exact h
    · exact h

/-- The two things a step can be: the host's next input, or an iteration of the loop inside a CHUNK (R7). -/
theorem step_cases (s : State) : step s = takeInput s ∨ (s.phase = .scanning ∧ step s = scanIteration s) := by
  by_cases hp : s.phase = .scanning
  · match hr : rstAsserted s with
    | true => exact .inl (step_of_rst hr)
    | false => exact .inr ⟨hp, step_of_scanning hp hr⟩
  · exact .inl (step_of_not_scanning hp)

/-- Waiting and taking an input keep the invariant. -/
theorem State.Inv.takeInput {s t : State} (h : s.Inv) (ht : takeInput s = .next t) : t.Inv := by
  obtain ⟨-, e⟩ | ⟨x, rest, -, ⟨-, e⟩ | ⟨-, e⟩⟩ := takeInput_cases s <;> rw [e] at ht <;> cases ht
  · exact h
  · exact (h.with_host_side rest s.presented).inputEffect x

/-- An iteration of the scan loop keeps the invariant. -/
theorem State.Inv.scanIteration {s t : State} (h : s.Inv) (hp : s.phase = .scanning) (ht : scanIteration s = .next t) :
    t.Inv := by
  rw [scanIteration_eq] at ht
  cases ht
  split
  · exact h.endScan hp ‹_›
  · exact h.scanStep hp

/-- Settles O51, by the two things a step can be. -/
theorem stepKeepsInv : Obligations.StepKeepsInv := by
  intro s t h ht
  obtain e | ⟨hp, e⟩ := step_cases s <;> rw [e] at ht
  · exact h.takeInput ht
  · exact h.scanIteration hp ht

end Sys2Proof.Machine
end

section
/-! SUPPORT. The memory's own statements (R38 to R48): what the two big-endian reads give, and which byte stands at a
logical offset after the append, the loop and `COMPACT`. -/

namespace Sys2Proof.Machine

variable {causeW : Nat}

/-! ### The big-endian reads -/

/-- The value of a header assembled from four bytes: the first to arrive is the most significant (R42). -/
theorem hdrOfBytes_toNat (b0 b1 b2 b3 : Byte) :
    (hdrOfBytes b0 b1 b2 b3).toNat = b0.toNat * 2 ^ 24 + b1.toNat * 2 ^ 16 + b2.toNat * 2 ^ 8 + b3.toNat := by
  simp only [hdrOfBytes, toNat_append_eq]
  omega

/-- The sync read sees only what stands from its address on. -/
theorem memRead2_drop (bytes : List Byte) (dropped addr : Nat) :
    memRead2 (bytes.drop dropped) addr = memRead2 bytes (dropped + addr) := by
  simp only [memRead2, List.drop_drop]

/-- The header read gives its four bytes in the order they stand (R42, R43): at address 0 by the shape of the list, and
at any other on what is left from there. -/
theorem memRead4_eq_some_iff (bytes : List Byte) (addr : Nat) (hdr : Hdr) :
    memRead4 bytes addr = some hdr ↔
      ∃ b0 b1 b2 b3 : Byte, bytes[addr]? = some b0 ∧ bytes[addr + 1]? = some b1 ∧ bytes[addr + 2]? = some b2 ∧
        bytes[addr + 3]? = some b3 ∧ hdr = hdrOfBytes b0 b1 b2 b3 := by
  have front : ∀ ahead : List Byte, memRead4 ahead 0 = some hdr ↔
      ∃ b0 b1 b2 b3 : Byte, ahead[0]? = some b0 ∧ ahead[1]? = some b1 ∧ ahead[2]? = some b2 ∧
        ahead[3]? = some b3 ∧ hdr = hdrOfBytes b0 b1 b2 b3
    | [] | [_] | [_, _] | [_, _, _] => by simp [memRead4]
    | b0 :: b1 :: b2 :: b3 :: _ => by simp [memRead4, eq_comm]
  simpa only [memRead4_drop, List.getElem?_drop, Nat.add_zero] using front (bytes.drop addr)

/-- The sync read gives its two bytes in the order they stand (R42, R43). -/
theorem memRead2_eq_some_iff (bytes : List Byte) (addr : Nat) (half : BitVec 16) :
    memRead2 bytes addr = some half ↔
      ∃ b0 b1 : Byte, bytes[addr]? = some b0 ∧ bytes[addr + 1]? = some b1 ∧ half = b0 ++ b1 := by
  have front : ∀ ahead : List Byte, memRead2 ahead 0 = some half ↔
      ∃ b0 b1 : Byte, ahead[0]? = some b0 ∧ ahead[1]? = some b1 ∧ half = b0 ++ b1
    | [] | [_] => by simp [memRead2]
    | b0 :: b1 :: _ => by simp [memRead2, eq_comm]
  simpa only [memRead2_drop, List.getElem?_drop, Nat.add_zero] using front (bytes.drop addr)

/-- The sync read succeeds exactly when its two bytes are there (R43). -/
theorem memRead2_isSome_iff (bytes : List Byte) (addr : Nat) :
    (memRead2 bytes addr).isSome = true ↔ addr + 2 ≤ bytes.length := by
  have front : ∀ ahead : List Byte, (memRead2 ahead 0).isSome = true ↔ 2 ≤ ahead.length
    | [] | [_] | _ :: _ :: _ => by simp [memRead2]
  have h := front (bytes.drop addr)
  rw [memRead2_drop, Nat.add_zero, List.length_drop] at h
  exact h.trans (by omega)

/-- Settles O7: a word is assembled from exactly the bytes it is read from, and words are equal when their values are. -/
theorem headerReadIsBigEndian : Obligations.HeaderReadIsBigEndian := by
  intro bytes addr
  refine ⟨fun hdr => ?_, fun half => ?_, ?_, memRead2_isSome_iff bytes addr⟩
  · simp only [memRead4_eq_some_iff, BitVec.toNat_eq, hdrOfBytes_toNat]
  · simp only [memRead2_eq_some_iff, BitVec.toNat_eq, toNat_append_eq]
  · rw [Option.isSome_iff_exists, memRead4_isSome_iff]

/-! ### The byte at a logical offset -/

/-- No byte is there below the count of dropped ones (R38). -/
theorem byteAt_of_lt_consumed {s : State causeW} {offset : Nat} (h : offset < s.consumed) : s.byteAt offset = none :=
  if_pos h

/-- A byte not dropped stands in `pending` (R39). -/
theorem byteAt_of_consumed_le {s : State causeW} {offset : Nat} (h : s.consumed ≤ offset) :
    s.byteAt offset = s.pending[offset - s.consumed]? :=
  if_neg (Nat.not_lt.mpr h)

/-- No byte is there from the end of what was received on (R39). -/
theorem byteAt_of_received_le {s : State causeW} {offset : Nat} (h : s.received ≤ offset) : s.byteAt offset = none := by
  rw [State.received] at h
  rw [byteAt_of_consumed_le (by omega)]
  exact List.getElem?_eq_none (by omega)

/-- An append puts its bytes behind those received and moves none (R47). -/
theorem append_byteAt (chunk : List Byte) (s : State causeW) (offset : Nat) :
    (append chunk s).byteAt offset =
      if offset < s.received then s.byteAt offset else chunk[offset - s.received]? := by
  have hend : s.received = s.consumed + s.pending.length := rfl
  obtain hdropped | hkept := Nat.lt_or_ge offset s.consumed
  · rw [byteAt_of_lt_consumed (by simpa using hdropped), byteAt_of_lt_consumed hdropped, if_pos (by omega)]
  · rw [byteAt_of_consumed_le (by simpa using hkept), byteAt_of_consumed_le hkept, append_pending, append_consumed,
      List.getElem?_append, Nat.sub_sub, ← hend]
    exact if_congr (by omega) rfl rfl

/-- `COMPACT` drops the bytes below the logical cursor and leaves every other at its logical offset (R48, R109). -/
theorem compact_byteAt (s : State causeW) (offset : Nat) :
    (compact s).byteAt offset = if offset < s.logicalCursor then none else s.byteAt offset := by
  have hcursor : s.logicalCursor = s.consumed + s.cursor := rfl
  obtain hdropped | hkept := Nat.lt_or_ge offset s.logicalCursor
  · rw [byteAt_of_lt_consumed hdropped, if_pos hdropped]
  · rw [byteAt_of_consumed_le hkept, byteAt_of_consumed_le (by omega), if_neg (by omega), compact_pending,
      compact_consumed, List.getElem?_drop]
    congr 1
    omega

/-- Settles O26: the elements by their rules, the bytes by `compact_byteAt`. -/
theorem compactDropsScannedPrefix : Obligations.CompactDropsScannedPrefix := by
  intro causeW s hcursor
  have hreceived : (compact s).received = s.received := by
    simp only [State.received, compact_consumed, compact_pending, List.length_drop]
    omega
  have hbytes (offset : Nat) (h : s.logicalCursor ≤ offset) : (compact s).byteAt offset = s.byteAt offset := by
    rw [compact_byteAt, if_neg (by omega)]
  exact ⟨rfl, rfl, rfl, rfl, rfl, rfl, rfl, rfl, rfl, hreceived, hbytes⟩

/-! ### The CHUNK and `DATA` -/

/-- After a CHUNK, a byte not dropped is one received before, at its offset, or one of the chunk's, behind them
(R47, R48, R124). -/
theorem scanChunk_byteAt (chunk : List Byte) (s : State causeW) (offset : Nat) :
    (scanChunk chunk s).byteAt offset =
      if offset < (scanChunk chunk s).consumed then none
      else if offset < s.received then s.byteAt offset else chunk[offset - s.received]? := by
  obtain ⟨hpending, -, -, -, -, hconsumed, -⟩ := scanLoop_frame (append chunk s)
  rw [scanChunk, compact_byteAt, byteAt_congr hpending hconsumed, append_byteAt]
  rfl

/-- A CHUNK takes back neither a counted frame nor a dropped byte (R22, R27). -/
theorem scanChunk_counters_le (chunk : List Byte) (s : State causeW) :
    s.frameCount ≤ (scanChunk chunk s).frameCount ∧ s.consumed ≤ (scanChunk chunk s).consumed := by
  obtain ⟨-, -, -, -, -, hconsumed, -⟩ := scanLoop_frame (append chunk s)
  simp [scanChunk, scanLoop_frameCount, hconsumed]

/-- `DATA` in `IDLE` is the CHUNK of its one byte (R124, R136). -/
theorem exec_data_of_idle {s : State} (h : s.phase = .idle) (byte : Byte) :
    exec (.data byte) s = .next (scanChunk [byte] s) := by
  simp only [exec, execData, chunkCommand, h]

/-- Settles O31: `DATA` is a CHUNK of one byte, whose only offset is the old end. -/
theorem dataFrame : Obligations.DataFrame := by
  intro byte s hphase hcursor
  obtain ⟨hp, hresult, hcause, hinputs, hpresented, hnonEmpty, hcompacted⟩ := scanChunk_frame [byte] s
  obtain ⟨hcount, hconsumed⟩ := scanChunk_counters_le [byte] s
  have hreceived := scanChunk_received [byte] s (by omega)
  refine ⟨_, exec_data_of_idle hphase byte, hp.trans hphase, hresult, hcause, hinputs, hpresented, ?_, hcompacted, hcount,
    hconsumed, hreceived, fun offset => ?_⟩
  · simp [hnonEmpty, nonEmptyAfter]
  · rw [scanChunk_byteAt]
    congr 1
    obtain hlt | rfl | hgt := Nat.lt_trichotomy offset s.received
    · rw [if_pos hlt, if_neg (by omega)]
    · simp
    · rw [if_neg (by omega), if_neg (by omega), byteAt_of_received_le (by omega)]
      exact List.getElem?_eq_none (by rw [List.length_singleton]; omega)

end Sys2Proof.Machine
end

section
/-! SUPPORT. The round trip of the codec (R60 to R69, R74): every code is that of the well-formed instruction it decodes
to. After it, the three forms of the sync test. -/

namespace Sys2Proof.Machine

/-! ### The round trip -/

/-- The header decoder on a word assembled from fields (R60). -/
theorem decodeHeader_syncedWord (ign : BitVec 5) (br : BitVec 4) (sr : BitVec 2) (pad : BitVec 1) (low : BitVec 9) :
    decodeHeader (syncedWord ign br sr pad low) = decodeSynced ign br sr pad low := by
  simp [decodeHeader_of_sync]

/-- A reserved bitrate index decodes to its own `REJECT` row unless the sample-rate index is reserved too (R68, log
entry 3). -/
theorem decodeSynced_reserved_br {sr : BitVec 2} (h : sr ≠ 3#2) (ign : BitVec 5) (pad : BitVec 1) (low : BitVec 9) :
    decodeSynced ign 0#4 sr pad low = .rejBr0 ign sr pad low ∧
      decodeSynced ign 15#4 sr pad low = .rejBr15 ign sr pad low :=
  ⟨if_neg h, if_neg h⟩

/-- Settles O1, by the family of the instruction: a `NOSYNC` word shows its first zero bit, a synced word its fields. -/
theorem decodeEncodeRoundTrip : Obligations.DecodeEncodeRoundTrip := by
  intro i hwf
  cases i with
  | data | eos | fail | rsvd3 | reset => rfl
  | nosync31 | nosync30 | nosync29 | nosync28 | nosync27 | nosync26 | nosync25 | nosync24 | nosync23 | nosync22
  | nosync21 =>
    simp only [encode, decode, decodeHeader, BitVec.getLsbD_append, BitVec.extractLsb'_append_eq_right]
    simp
  | rejBr0 ign sr pad low | rejBr15 ign sr pad low =>
    have hsr : sr ≠ 3#2 := by simpa [Instr.wf] using hwf
    simp [encode, decode, decodeHeader_syncedWord, decodeSynced_reserved_br hsr]
  | _ => exact congrArg Except.ok (decodeHeader_syncedWord ..)

/-- The values of a two-bit field, the reserved sample-rate index first. -/
theorem twoBits_cases : ∀ x : BitVec 2, x = 3#2 ∨ x = 0#2 ∨ x = 1#2 ∨ x = 2#2 := by decide

/-- The row of a synced header has the word's fields (R60, R68, R69). -/
theorem encode_decodeSynced (ign : BitVec 5) (br : BitVec 4) (sr : BitVec 2) (pad : BitVec 1) (low : BitVec 9) :
    encode (decodeSynced ign br sr pad low) = .hdr (syncedWord ign br sr pad low) := by
  obtain ⟨⟨b, hb⟩⟩ := br
  obtain rfl | rfl | rfl | rfl := twoBits_cases sr <;> interval_cases b <;> rfl

/-- The decoder's choice among the `REJECT` rows is the well-formed one (log entry 3). -/
theorem decodeSynced_wf (ign : BitVec 5) (br : BitVec 4) (sr : BitVec 2) (pad : BitVec 1) (low : BitVec 9) :
    (decodeSynced ign br sr pad low).wf = true := by
  obtain ⟨⟨b, hb⟩⟩ := br
  obtain rfl | rfl | rfl | rfl := twoBits_cases sr <;> interval_cases b <;> rfl

/-- A header is carried by a `NOSYNC` row: it is the code of that row with its operand. -/
def NosyncCode (hdr : Hdr) (i : Instr) : Prop := i.hdrKind = some .nosync ∧ encode i = .hdr hdr

/-- The value of a word that has its first bits replaced. -/
theorem toNat_append_rest {m k w : Nat} (n : Nat) (x : BitVec w) :
    (BitVec.ofNat m n ++ x.extractLsb' 0 k).toNat = n % 2 ^ m * 2 ^ k + x.toNat % 2 ^ k := by
  rw [toNat_append_eq, toNat_field, BitVec.toNat_ofNat, pow_zero, Nat.div_one]

/-- One test of the header decoder: `high` are the bits above bit `k`. Where bit `k` is 0, the row carries the header if
its word has the same bits; where it is 1, the next test knows one bit more. -/
theorem nosyncCode_ite {hdr word : Hdr} {k high bits : Nat} {i j : Instr} (hhigh : hdr.toNat / 2 ^ (k + 1) = high)
    (hkind : i.hdrKind = some .nosync) (hcode : encode i = .hdr word)
    (hword : word.toNat = bits * 2 ^ k + hdr.toNat % 2 ^ k) (hbits : bits = 2 * high)
    (hj : hdr.toNat / 2 ^ k = 2 * high + 1 → NosyncCode hdr j) :
    NosyncCode hdr (if hdr.getLsbD k = false then i else j) := by
  rw [pow_succ, ← Nat.div_div_eq_div_mul] at hhigh
  split
  next hzero =>
    rw [getLsbD_false_iff] at hzero
    have hsame : word = hdr := by
      apply BitVec.eq_of_toNat_eq
      rw [hword, show bits = hdr.toNat / 2 ^ k by omega, Nat.div_add_mod']
    exact ⟨hkind, hsame ▸ hcode⟩
  next hone =>
    rw [getLsbD_false_iff] at hone
    exact hj (by omega)

/-- With no matching sync, the word is of the `NOSYNC` row of its first zero bit, which carries the bits below it (R67). -/
theorem nosyncCode_decodeHeader {hdr : Hdr} (h : hdrSync hdr ≠ 0x7FF#11) : NosyncCode hdr (decodeHeader hdr) := by
  refine nosyncCode_ite (Nat.div_eq_of_lt hdr.isLt) rfl rfl (toNat_append_rest ..) rfl fun h31 =>
    nosyncCode_ite h31 rfl rfl (toNat_append_rest ..) rfl fun h30 =>
    nosyncCode_ite h30 rfl rfl (toNat_append_rest ..) rfl fun h29 =>
    nosyncCode_ite h29 rfl rfl (toNat_append_rest ..) rfl fun h28 =>
    nosyncCode_ite h28 rfl rfl (toNat_append_rest ..) rfl fun h27 =>
    nosyncCode_ite h27 rfl rfl (toNat_append_rest ..) rfl fun h26 =>
    nosyncCode_ite h26 rfl rfl (toNat_append_rest ..) rfl fun h25 =>
    nosyncCode_ite h25 rfl rfl (toNat_append_rest ..) rfl fun h24 =>
    nosyncCode_ite h24 rfl rfl (toNat_append_rest ..) rfl fun h23 =>
    nosyncCode_ite h23 rfl rfl (toNat_append_rest ..) rfl fun h22 =>
    nosyncCode_ite h22 rfl rfl (toNat_append_rest ..) rfl fun h21 => absurd ?_ h
  rw [← BitVec.toNat_inj, hdrSync_toNat, h21]
  rfl

/-- Every header is the code of what it decodes to. -/
theorem encode_decodeHeader (hdr : Hdr) : encode (decodeHeader hdr) = .hdr hdr := by
  by_cases h : hdrSync hdr = 0x7FF#11
  · rw [decodeHeader_of_sync hdr h, encode_decodeSynced, syncedWord_fields hdr h]
  · exact (nosyncCode_decodeHeader h).2

/-- Only two `REJECT` rows have words that decode to another row (log entry 3). -/
theorem wf_of_not_reject {i : Instr} (h : i.hdrKind ≠ some .reject) : i.wf = true := by
  cases i with
  | rejBr0 | rejBr15 => exact absurd rfl h
  | _ => rfl

/-- What a header decodes to is well formed. -/
theorem decodeHeader_wf (hdr : Hdr) : (decodeHeader hdr).wf = true := by
  by_cases h : hdrSync hdr = 0x7FF#11
  · rw [decodeHeader_of_sync hdr h]
    exact decodeSynced_wf ..
  · exact wf_of_not_reject (by simp [(nosyncCode_decodeHeader h).1])

/-- Every beat is the code of the command it decodes to, which is well formed (R74). -/
theorem decodeBeat_code (kind : BitVec 2) (data : Byte) :
    encode (decodeBeat kind data) = .beat kind data ∧ (decodeBeat kind data).wf = true := by
  obtain rfl | rfl | rfl | rfl := twoBits_cases kind <;> exact ⟨rfl, rfl⟩

/-- Settles O2, by the encoding space of the code. -/
theorem encodeDecodeRoundTrip : Obligations.EncodeDecodeRoundTrip := by
  intro c i hdecode
  cases c with
  | hdr word =>
    cases hdecode
    exact ⟨encode_decodeHeader word, decodeHeader_wf word⟩
  | beat kind data =>
    cases hdecode
    exact decodeBeat_code kind data
  | rst level =>
    rw [decode] at hdecode
    split at hdecode
    next hlevel =>
      cases hdecode
      exact ⟨congrArg Code.rst hlevel.symm, rfl⟩
    next => cases hdecode

/-- Settles O5: the decoder computes each. -/
theorem writtenOutWordsDecode : Obligations.WrittenOutWordsDecode :=
  ⟨rfl, rfl, rfl, rfl, rfl, rfl, rfl, rfl, rfl, rfl, rfl, rfl, rfl⟩

/-! ### The sync -/

/-- The mask of the eleven bits of `SYNC` keeps them and clears the rest (R61). -/
theorem and_syncMask (hdr : Hdr) : hdr &&& 0xFFE00000#32 = hdrSync hdr ++ 0#21 := by
  have hsplit : hdrSync hdr ++ hdr.extractLsb' 0 21 = hdr := by
    apply BitVec.eq_of_toNat_eq
    have hlt := hdr.isLt
    rw [toNat_append_eq, hdrSync_toNat, toNat_field]
    omega
  calc hdr &&& 0xFFE00000#32
      = (hdrSync hdr ++ hdr.extractLsb' 0 21) &&& (BitVec.allOnes 11 ++ 0#21) := by rw [hsplit]; rfl
    _ = hdrSync hdr ++ 0#21 := by rw [Laws.and_append_parts, BitVec.and_allOnes, BitVec.and_zero]

/-- The sync fails to match exactly when one of the eleven bits is 0. -/
theorem syncMatch_eq_false_iff (hdr : Hdr) : syncMatch hdr = false ↔ hdrSync hdr ≠ 0x7FF#11 := by
  rw [← Bool.not_eq_true, syncMatch_iff_hdrSync]

/-- Settles O8: the mask test through the word it keeps, the two-byte test by the definition. -/
theorem syncMatchIsElevenOnes : Obligations.SyncMatchIsElevenOnes := by
  intro hdr
  refine ⟨syncMatch_iff_hdrSync hdr, ?_, by simp [syncMatch]⟩
  rw [syncMatch_iff_hdrSync, and_syncMask]
  refine ⟨fun h => h ▸ rfl, fun h => ?_⟩
  have hsync := congrArg hdrSync h
  rwa [hdrSync, BitVec.extractLsb'_append_eq_left] at hsync

end Sys2Proof.Machine
end

section
/-! SUPPORT. The rows of the opcode table (R79): which words are of a row, what a row says of its words, and what the 42
`VALID` rows do. -/

namespace Sys2Proof.Machine

/-! ### The words of a row -/

/-- The code of every instruction is of its row (R67, R68, R69). -/
theorem encodesToItsRow (i : Instr) : Laws.EncodesToItsRow.Statement i := by
  cases i with
  | nosync31 rest => exact Laws.EncodesToItsRow.nosync31 rest
  | nosync30 rest => exact Laws.EncodesToItsRow.nosync30 rest
  | nosync29 rest => exact Laws.EncodesToItsRow.nosync29 rest
  | nosync28 rest => exact Laws.EncodesToItsRow.nosync28 rest
  | nosync27 rest => exact Laws.EncodesToItsRow.nosync27 rest
  | nosync26 rest => exact Laws.EncodesToItsRow.nosync26 rest
  | nosync25 rest => exact Laws.EncodesToItsRow.nosync25 rest
  | nosync24 rest => exact Laws.EncodesToItsRow.nosync24 rest
  | nosync23 rest => exact Laws.EncodesToItsRow.nosync23 rest
  | nosync22 rest => exact Laws.EncodesToItsRow.nosync22 rest
  | nosync21 rest => exact Laws.EncodesToItsRow.nosync21 rest
  | rejBr0 | rejBr15 => exact Laws.syncedWord_and_br ..
  | rejSr3 => exact Laws.syncedWord_and_sr ..
  | data | eos | fail | rsvd3 | reset => trivial
  | _ => exact Laws.syncedWord_and_valid ..

/-- A header word matches the mask and pattern of the row it decodes to. -/
theorem and_mask_of_hdrRow {hdr : Hdr} {row : HdrRow} (h : (decodeHeader hdr).hdrRow = some row) :
    hdr &&& row.mask = row.pattern := by
  have hrow := encodesToItsRow (decodeHeader hdr)
  rwa [Laws.EncodesToItsRow.Statement, encode_decodeHeader, h] at hrow

/-- A word of each `NOSYNC` row, and one for each pair of indices. -/
def sampleHeaders : List Hdr :=
  (List.range 11).map (fun k => BitVec.ofNat 32 (2 ^ 32 - 2 ^ (22 + k))) ++
    (List.range 64).map (fun k => syncedWord 0#5 (BitVec.ofNat 4 (k / 4)) (BitVec.ofNat 2 k) 0#1 0#9)

/-- The header rows of the opcode table. -/
def headerRows : List HdrRow := sampleHeaders.filterMap (fun hdr => (decodeHeader hdr).hdrRow)

/-- Every header row is one of them. -/
theorem mem_headerRows {i : Instr} {row : HdrRow} (h : i.hdrRow = some row) : row ∈ headerRows := by
  cases i <;> cases h <;> decide +kernel

/-- Rows with a word in common agree on the bits that both masks keep; a `NOSYNC` or `VALID` row so agrees with no other
row (R67, R69). -/
theorem headerRows_disjoint : ∀ row ∈ headerRows, ∀ other ∈ headerRows, row.outcome ≠ .reject →
    row.pattern &&& other.mask = other.pattern &&& row.mask → row = other := by
  decide +kernel

/-! ### What a row says of its words -/

/-- The class that the opcode table gives the words of a row with the padding bit `pad` (R66, R69). -/
def rowClass (row : HdrRow) (pad : BitVec 1) : HdrClass :=
  match row.outcome with
  | .nosync => .nosync
  | .reject => .reject
  | .valid => .valid (row.base + pad.toNat)

/-- The class of a header whose sync matches, from the decoder's answer (R88). -/
def decodedClass : DecodeResult → HdrClass
  | .rejected => .reject
  | .frameLength len => .valid len

/-- With a matching sync the class is that of the decoder's answer (R88). -/
theorem classify_of_sync {hdr : Hdr} (h : syncMatch hdr = true) : classify hdr = decodedClass (decodeHdr hdr) := by
  rw [classify, if_pos h]
  cases decodeHdr hdr <;> rfl

/-- The row of a synced header depends on its two indices alone (R68, R69). -/
theorem decodeSynced_hdrRow_congr (ign ign' : BitVec 5) (br : BitVec 4) (sr : BitVec 2) (pad pad' : BitVec 1)
    (low low' : BitVec 9) : (decodeSynced ign br sr pad low).hdrRow = (decodeSynced ign' br sr pad' low').hdrRow := by
  obtain ⟨⟨b, hb⟩⟩ := br
  obtain rfl | rfl | rfl | rfl := twoBits_cases sr <;> interval_cases b <;> rfl

/-- The table's numbers say what the formula says, over the 128 field values (R87, R91). -/
theorem syncedRow_class : ∀ (br : BitVec 4) (sr : BitVec 2) (pad : BitVec 1),
    (decodeSynced 0#5 br sr 0#1 0#9).hdrRow.map (rowClass · pad) = some (decodedClass (decodeFields br sr pad)) := by
  decide

/-- A synced header decodes to a row of the table, which says of it what the decoder says (R88). -/
theorem decodeSynced_row (ign : BitVec 5) (br : BitVec 4) (sr : BitVec 2) (pad : BitVec 1) (low : BitVec 9) :
    ∃ row, (decodeSynced ign br sr pad low).hdrRow = some row ∧
      rowClass row pad = decodedClass (decodeFields br sr pad) := by
  rw [← Option.map_eq_some_iff, decodeSynced_hdrRow_congr ign 0#5 br sr pad 0#1 low 0#9, syncedRow_class]

/-- Every header decodes to a row of the table, which says of it what `CLASSIFY` says (R88). -/
theorem decodeHeader_row (hdr : Hdr) :
    ∃ row, (decodeHeader hdr).hdrRow = some row ∧ rowClass row (hdrPad hdr) = classify hdr := by
  by_cases h : hdrSync hdr = 0x7FF#11
  · rw [decodeHeader_of_sync hdr h, classify_of_sync ((syncMatch_iff_hdrSync hdr).mpr h)]
    exact decodeSynced_row ..
  · obtain ⟨row, hrow, hkind⟩ := Option.map_eq_some_iff.mp (nosyncCode_decodeHeader h).1
    refine ⟨row, hrow, ?_⟩
    rw [(classify_nosync_iff hdr).mpr ((syncMatch_eq_false_iff hdr).mpr h), rowClass, hkind]

/-- The class of a header from the row it decodes to. -/
theorem classify_of_hdrRow {hdr : Hdr} {row : HdrRow} (h : (decodeHeader hdr).hdrRow = some row) :
    classify hdr = rowClass row (hdrPad hdr) := by
  obtain ⟨found, hfound, hclass⟩ := decodeHeader_row hdr
  rw [← hclass, Option.some.inj (hfound.symm.trans h)]

/-- Settles O14, by the outcome of the row. -/
theorem classifyAgreesWithTable : Obligations.ClassifyAgreesWithTable := by
  intro hdr row hrow
  rw [classify_of_hdrRow hrow, rowClass]
  exact ⟨fun h => by rw [h], fun h => by rw [h], fun h => by rw [h]⟩

/-- The kind of the row a header decodes to is the kind of its class (R66). -/
theorem hdrKind_decodeHeader (hdr : Hdr) :
    ((decodeHeader hdr).hdrKind = some .nosync ↔ classify hdr = .nosync) ∧
    ((decodeHeader hdr).hdrKind = some .reject ↔ classify hdr = .reject) ∧
    ((decodeHeader hdr).hdrKind = some .valid ↔ ∃ len, classify hdr = .valid len) := by
  obtain ⟨row, hrow, hclass⟩ := decodeHeader_row hdr
  rw [Instr.hdrKind, hrow, ← hclass, rowClass]
  cases hkind : row.outcome <;> simp [hkind]

/-- The legal indices, as numbers (R69). -/
theorem not_reserved_iff : ∀ (br : BitVec 4) (sr : BitVec 2),
    ¬(br = 0#4 ∨ br = 15#4 ∨ sr = 3#2) ↔ 1 ≤ br.toNat ∧ br.toNat ≤ 14 ∧ sr.toNat ≤ 2 := by
  decide

/-- The decoder gives a length to what it does not reject. -/
theorem exists_frameLength_iff (d : DecodeResult) : (∃ len, d = .frameLength len) ↔ d ≠ .rejected := by
  cases d <;> simp

/-- Settles O4: the kind is that of the class, whose conditions are the sync and the decoder's rejection. -/
theorem threeKindsOfHeader : Obligations.ThreeKindsOfHeader := by
  intro hdr
  obtain ⟨hnosync, hreject, hvalid⟩ := hdrKind_decodeHeader hdr
  have hrejected : decodeHdr hdr = .rejected ↔ _ := decodeFields_rejected_iff (hdrBr hdr) (hdrSr hdr) (hdrPad hdr)
  refine ⟨?_, ?_, ?_⟩
  · rw [hnosync, classify_nosync_iff, syncMatch_eq_false_iff]
  · rw [hreject, classify_reject_iff, syncMatch_iff_hdrSync, hrejected]
  · simp only [hvalid, classify_valid_iff, exists_and_left, exists_frameLength_iff, syncMatch_iff_hdrSync, ne_eq,
      hrejected, not_reserved_iff]

/-- A word that matches a `NOSYNC` or `VALID` row decodes to that row: it matches the row it decodes to as well. -/
theorem hdrRow_of_and_mask {hdr : Hdr} {i : Instr} {row : HdrRow} (hrow : i.hdrRow = some row)
    (hkind : row.outcome ≠ .reject) (hmatch : hdr &&& row.mask = row.pattern) :
    (decodeHeader hdr).hdrRow = some row := by
  obtain ⟨other, hother, -⟩ := decodeHeader_row hdr
  have hcommon : row.pattern &&& other.mask = other.pattern &&& row.mask := by
    rw [← hmatch, ← and_mask_of_hdrRow hother, BitVec.and_assoc, BitVec.and_assoc, BitVec.and_comm row.mask]
  rw [hother, headerRows_disjoint row (mem_headerRows hrow) other (mem_headerRows hother) hkind hcommon]

/-- Settles O3: what a header decodes to has the header as its code, and the row's words decode to no other row. -/
theorem headerDecodesToItsRow : Obligations.HeaderDecodesToItsRow :=
  ⟨fun _ _ => and_mask_of_hdrRow, fun _ _ _ => hdrRow_of_and_mask⟩

/-! ### The ignored bits -/

/-- A `NOSYNC` row tests bits of `SYNC` only (R67). -/
theorem mask_and_syncMask {i : Instr} {row : HdrRow} (hrow : i.hdrRow = some row) (hkind : row.outcome = .nosync) :
    0xFFE00000#32 &&& row.mask = row.mask := by
  cases i <;> cases hrow <;> cases hkind <;> rfl

section
variable {h₁ h₂ : Hdr} (hsync : hdrSync h₁ = hdrSync h₂) (hbr : hdrBr h₁ = hdrBr h₂)
  (hsr : hdrSr h₁ = hdrSr h₂) (hpad : hdrPad h₁ = hdrPad h₂)

include hsync

/-- The sync test reads `SYNC` alone (R65). -/
theorem syncMatch_congr : syncMatch h₁ = syncMatch h₂ := by
  rw [Bool.eq_iff_iff, syncMatch_iff_hdrSync, syncMatch_iff_hdrSync, hsync]

include hbr hsr

/-- The row of a header depends on `SYNC`, `BR` and `SR` alone (R65). -/
theorem hdrRow_congr : (decodeHeader h₁).hdrRow = (decodeHeader h₂).hdrRow := by
  by_cases h : hdrSync h₁ = 0x7FF#11
  · rw [decodeHeader_of_sync h₁ h, decodeHeader_of_sync h₂ (hsync ▸ h), hbr, hsr]
    exact decodeSynced_hdrRow_congr ..
  · obtain ⟨row, hrow, hkind⟩ := Option.map_eq_some_iff.mp (nosyncCode_decodeHeader h).1
    have hmask := mask_and_syncMask hrow hkind
    have hmatch : h₂ &&& row.mask = row.pattern := by
      rw [← and_mask_of_hdrRow hrow, ← hmask, ← BitVec.and_assoc, ← BitVec.and_assoc, and_syncMask, and_syncMask,
        hsync]
    rw [hrow, hdrRow_of_and_mask hrow (by simp [hkind]) hmatch]

include hpad

/-- The meaning of a header depends on the four fields alone (R65). -/
theorem exec_decodeHeader_congr (s : State) : exec (decodeHeader h₁) s = exec (decodeHeader h₂) s := by
  match h : syncMatch h₁ with
  | true =>
    have h' := syncMatch_congr hsync ▸ h
    rw [syncMatch_iff_hdrSync] at h h'
    rw [decodeHeader_of_sync h₁ h, decodeHeader_of_sync h₂ h', exec_decodeSynced, exec_decodeSynced, hbr, hsr, hpad]
  | false =>
    rw [exec_decodeHeader_of_not_sync h, exec_decodeHeader_of_not_sync (syncMatch_congr hsync ▸ h)]

end

/-- Settles O6: the class and the ports go by the sync test and the decoder, which read those four fields. -/
theorem ignoredBitsHaveNoEffect : Obligations.IgnoredBitsHaveNoEffect := by
  intro h₁ h₂ hsync hbr hsr hpad
  have hmatch := syncMatch_congr hsync
  have hdecode : decodeHdr h₁ = decodeHdr h₂ := by rw [decodeHdr, decodeHdr, hbr, hsr, hpad]
  refine ⟨?_, hdrRow_congr hsync hbr hsr, hdecode, ?_, exec_decodeHeader_congr hsync hbr hsr hpad⟩
  · rw [classify, classify, hmatch, hdecode]
  · rw [decoderPorts, decoderPorts, hmatch, hdecode, hbr, hsr, hpad]

/-! ### The 42 `VALID` rows -/

/-- A `VALID` row's meaning, by its word: the frame's length is the table's base and the word's padding bit (R69). -/
theorem exec_of_valid_code {i : Instr} {w : Hdr} {row : HdrRow} (hcode : encode i = .hdr w)
    (hrow : i.hdrRow = some row) (hvalid : row.outcome = .valid) (s : State) :
    exec i s = .next (sValid (row.base + (hdrPad w).toNat) s) := by
  have hwf : i.wf = true := wf_of_not_reject (by simp [Instr.hdrKind, hrow, hvalid])
  have hi : decodeHeader w = i := by
    have h := decodeEncodeRoundTrip i hwf
    rw [hcode] at h
    exact Except.ok.inj h
  have hclass : classify w = .valid (row.base + (hdrPad w).toNat) := by
    rw [classify_of_hdrRow (hi ▸ hrow), rowClass, hvalid]
  obtain ⟨hsync, hdecode⟩ := (classify_valid_iff w _).mp hclass
  rw [← hi, decodeHeader_of_sync w ((syncMatch_iff_hdrSync w).mp hsync), exec_decodeSynced, ← decodeHdr, hdecode,
    sDecoded]

/-- Settles O17: the guard holds and the frame fits. -/
theorem validRowsAcceptWholeFrame : Obligations.ValidRowsAcceptWholeFrame := by
  intro i w row s hcode hrow hvalid hheader hframe
  rw [exec_of_valid_code hcode hrow hvalid, sValid, if_pos ((loopGuard_iff s).mpr hheader), if_pos hframe, sAccept]

/-- Settles O18: the guard holds and the frame does not fit. -/
theorem validRowsSuspendWithoutChange : Obligations.ValidRowsSuspendWithoutChange := by
  intro i w row s hcode hrow hvalid hheader hshort
  rw [exec_of_valid_code hcode hrow hvalid, sValid, if_pos ((loopGuard_iff s).mpr hheader),
    if_neg (Nat.not_le.mpr hshort), sSuspend_eq]

/-- Settles O21: the fetch reads the header, and its row means the scan step on it. -/
theorem rowMeaningIsTheScanStep : Obligations.RowMeaningIsTheScanStep :=
  fun _ _ h => ⟨decodeBytes_drop h, exec_decodeHeader h⟩

end Sys2Proof.Machine
end

section
/-! SUPPORT. A CHUNK is its bytes one at a time (R116): the loop resumes where it halted, on what `COMPACT` left. So the
byte-serial port, one `DATA` beat a byte, carries out every command sequence (R76, R136). -/

namespace Sys2Proof.Machine

variable {causeW : Nat}

/-! ### The scan step, from the class of the header -/

/-- The scan step on a header of a class (R106). -/
def headerStep (c : HdrClass) (s : State causeW) : StepOutcome × State causeW :=
  match c with
  | .nosync => (.skip, { s with cursor := s.cursor + 1 })
  | .reject => (.reject, { s with cursor := s.cursor + 1 })
  | .valid len =>
    if s.cursor + len ≤ s.pending.length then (.accept len, sAccept len s) else (.suspend len, s)

/-- Where a header is read at the cursor, its class decides the scan step. -/
theorem scanStep_of_read {s : State causeW} {hdr : Hdr} (h : memRead4 s.pending s.cursor = some hdr) :
    scanStep s = headerStep (classify hdr) s := by
  obtain ⟨hlt, -⟩ | ⟨found, hfound, -, hcases⟩ := scanStep_cases s
  · exact absurd ((memRead4_isSome_iff s.pending s.cursor).mp ⟨hdr, h⟩) (Nat.not_le.mpr hlt)
  · obtain rfl : found = hdr := Option.some.inj (hfound.symm.trans h)
    obtain ⟨hc, e⟩ | ⟨hc, e⟩ | ⟨len, hc, -, hfit, e⟩ | ⟨len, hc, -, hshort, e⟩ := hcases <;> rw [e, hc]
    · rfl
    · rfl
    · exact (if_pos hfit).symm
    · exact (if_neg (Nat.not_le.mpr hshort)).symm

/-- Below the floor the scan step changes nothing (R105). -/
theorem scanStep_of_short {s : State causeW} (h : s.pending.length < s.cursor + 4) : scanStep s = (.exhaust, s) := by
  obtain ⟨-, e⟩ | ⟨-, -, hle, -⟩ := scanStep_cases s
  · exact e
  · omega

/-- A scan step that continues has read a header. -/
theorem exists_read_of_continues {s : State causeW} (h : (scanStep s).1.halts = false) :
    ∃ hdr, memRead4 s.pending s.cursor = some hdr := by
  rw [memRead4_isSome_iff]
  by_contra hlt
  rw [scanStep_of_short (Nat.not_le.mp hlt)] at h
  cases h

/-- The scan step halts on settled bytes (R113). -/
theorem halts_of_settled {s : State causeW} (hc : s.cursor = 0) (h : Settled s.pending) :
    (scanStep s).1.halts = true := by
  obtain hlt | ⟨hdr, len, hread, hclass, hshort⟩ := h
  · rw [scanStep_of_short (by omega)]
    rfl
  · rw [scanStep_of_read (hc ▸ hread), hclass, headerStep, if_neg (by omega)]
    rfl

/-! ### The loop resumes on appended bytes -/

/-- A scan step that continues does so in the same way with more bytes behind (R116). -/
theorem scanStep_append (chunk : List Byte) {s : State causeW} (h : (scanStep s).1.halts = false) :
    scanStep (append chunk s) = ((scanStep s).1, append chunk (scanStep s).2) := by
  obtain ⟨hdr, hread⟩ := exists_read_of_continues h
  rw [scanStep_of_read hread] at h ⊢
  rw [scanStep_of_read (memRead4_append chunk hread)]
  match hc : classify hdr with
  | .nosync => rfl
  | .reject => rfl
  | .valid len =>
    have hfit : s.cursor + len ≤ s.pending.length := by
      by_contra hshort
      rw [hc, headerStep, if_neg hshort] at h
      cases h
    have hfit' : (append chunk s).cursor + len ≤ (append chunk s).pending.length := by
      rw [append_cursor, append_pending, List.length_append]
      omega
    rw [headerStep, headerStep, if_pos hfit, if_pos hfit']
    rfl

/-- Bytes that arrive after the loop are scanned as if they had been there before it (R116). -/
theorem scanLoop_append_scanLoop (chunk : List Byte) (s : State causeW) :
    scanLoop (append chunk (scanLoop s)) = scanLoop (append chunk s) := by
  refine scanLoop_induction (P := fun s => scanLoop (append chunk (scanLoop s)) = scanLoop (append chunk s)) ?_ ?_ s
  · intro s hh
    rw [scanLoop_unroll s, if_pos hh]
  · intro s hh ih
    have hcontinues : ¬(scanStep s).1.halts = true := by simp [hh]
    rw [scanLoop_unroll s, if_neg hcontinues, ih, scanLoop_unroll (append chunk s), scanStep_append chunk hh,
      if_neg hcontinues]

/-! ### The loop does not look behind the cursor -/

/-- `k` bytes before the cursor dropped and counted: what `COMPACT` does to all of them (R48, R109). -/
def dropScanned (k : Nat) (s : State causeW) : State causeW :=
  { s with pending := s.pending.drop k, consumed := s.consumed + k, cursor := s.cursor - k }

theorem compact_eq_dropScanned (s : State causeW) : compact s = dropScanned s.cursor s := by
  rw [dropScanned, Nat.sub_self, compact]

theorem compact_dropScanned {k : Nat} {s : State causeW} (h : k ≤ s.cursor) : compact (dropScanned k s) = compact s := by
  have hk : k + (s.cursor - k) = s.cursor := Nat.add_sub_cancel' h
  simp only [compact, dropScanned, List.drop_drop, Nat.add_assoc, hk]

theorem append_dropScanned (chunk : List Byte) {k : Nat} {s : State causeW} (h : k ≤ s.pending.length) :
    append chunk (dropScanned k s) = dropScanned k (append chunk s) := by
  simp only [append, dropScanned, List.drop_append_of_le_length h]

/-- The scan step does not see the bytes before the cursor. -/
theorem scanStep_dropScanned {k : Nat} {s : State causeW} (hk : k ≤ s.cursor) (hc : s.cursor ≤ s.pending.length) :
    scanStep (dropScanned k s) = ((scanStep s).1, dropScanned k (scanStep s).2) := by
  have hlen : (dropScanned k s).pending.length = s.pending.length - k := List.length_drop
  have hcursor : (dropScanned k s).cursor = s.cursor - k := rfl
  obtain ⟨hlt, e⟩ | ⟨hdr, hread, -, -⟩ := scanStep_cases s
  · rw [e, scanStep_of_short (by omega)]
  · have hread' : memRead4 (dropScanned k s).pending (dropScanned k s).cursor = some hdr := by
      rw [hcursor, ← hread, dropScanned, memRead4_drop, Nat.add_sub_cancel' hk]
    have hnext (n : Nat) : s.cursor - k + n = s.cursor + n - k := by omega
    rw [scanStep_of_read hread, scanStep_of_read hread']
    match classify hdr with
    | .nosync => simp only [headerStep, dropScanned, hnext]
    | .reject => simp only [headerStep, dropScanned, hnext]
    | .valid len =>
      by_cases hfit : s.cursor + len ≤ s.pending.length
      · rw [headerStep, headerStep, if_pos hfit, if_pos (by omega)]
        simp only [sAccept, dropScanned, hnext]
      · rw [headerStep, headerStep, if_neg hfit, if_neg (by omega)]

/-- The scan loop does not see the bytes before the cursor. -/
theorem scanLoop_dropScanned {k : Nat} {s : State causeW} (hk : k ≤ s.cursor) (hc : s.cursor ≤ s.pending.length) :
    scanLoop (dropScanned k s) = dropScanned k (scanLoop s) := by
  refine scanLoop_induction (P := fun s => k ≤ s.cursor → s.cursor ≤ s.pending.length →
    scanLoop (dropScanned k s) = dropScanned k (scanLoop s)) ?_ ?_ s hk hc
  · intro s hh hk hc
    rw [scanLoop_unroll, scanLoop_unroll s, scanStep_dropScanned hk hc, if_pos hh, if_pos hh]
  · intro s hh ih hk hc
    obtain ⟨hmoved, hinside⟩ := scanStep_progress s hh
    have hcontinues : ¬(scanStep s).1.halts = true := by simp [hh]
    rw [scanLoop_unroll, scanLoop_unroll s, scanStep_dropScanned hk hc, if_neg hcontinues, if_neg hcontinues]
    exact ih (by omega) (by rwa [(scanStep_frame s).1])

/-! ### A CHUNK in parts -/

/-- Two appends are one (R47). -/
theorem append_append (a b : List Byte) (s : State causeW) : append b (append a s) = append (a ++ b) s := by
  simp only [append, nonEmptyAfter, List.append_assoc, List.length_append, Bool.or_assoc, ← Bool.decide_or,
    Nat.add_pos_iff_pos_or_pos]

/-- A CHUNK's loop ends alike on what `COMPACT` left and on all that was scanned (R116). -/
theorem compact_scanLoop_append_compact (chunk : List Byte) {s : State causeW} (h : s.cursor ≤ s.pending.length) :
    compact (scanLoop (append chunk (compact s))) = compact (scanLoop (append chunk s)) := by
  have hinside : s.cursor ≤ (append chunk s).pending.length := by
    rw [append_pending, List.length_append]
    omega
  rw [compact_eq_dropScanned s, append_dropScanned chunk h, scanLoop_dropScanned (append_cursor chunk s).ge hinside,
    compact_dropScanned]
  exact (scanLoop_cursor (append chunk s) hinside).1

/-- A CHUNK in `IDLE` is its parts one after the other (R116). -/
theorem scanChunk_append (a b : List Byte) {s : State causeW} (h : s.cursor ≤ s.pending.length) :
    scanChunk (a ++ b) s = scanChunk b (scanChunk a s) := by
  have hscanned : (scanLoop (append a s)).cursor ≤ (scanLoop (append a s)).pending.length := by
    rw [(scanLoop_frame _).1]
    exact (scanLoop_cursor _ (by rw [append_cursor, append_pending, List.length_append]; omega)).2
  calc scanChunk (a ++ b) s
      = compact (scanLoop (append b (append a s))) := by rw [scanChunk, append_append]
    _ = compact (scanLoop (append b (scanLoop (append a s)))) := by rw [scanLoop_append_scanLoop]
    _ = scanChunk b (scanChunk a s) := (compact_scanLoop_append_compact b hscanned).symm

/-- A CHUNK is its parts one after the other, in every phase (R116, R129). -/
theorem chunkCommand_append (a b : List Byte) {s : State causeW} (h : s.cursor ≤ s.pending.length) :
    chunkCommand (a ++ b) s = chunkCommand b (chunkCommand a s) := by
  match hp : s.phase with
  | .idle =>
    have hp' : (scanChunk a s).phase = .idle := (scanChunk_frame a s).1.trans hp
    simp only [chunkCommand, hp, hp', scanChunk_append a b h]
  | .scanning => simp only [chunkCommand, hp]
  | .done => simp only [chunkCommand, hp]

/-- A CHUNK of no bytes changes nothing in a well-formed state (R125). -/
theorem chunkCommand_nil {s : State causeW} (h : s.Inv) : chunkCommand [] s = s := by
  match hp : s.phase with
  | .idle =>
    have hc := h.cursor_zero (by simp [hp])
    have hsame : append [] s = s := by simp [append, nonEmptyAfter]
    simp only [chunkCommand, hp, scanChunk, hsame]
    rw [scanLoop_unroll, if_pos (halts_of_settled hc (h.settled hp)), compact, hc]
    simp only [List.drop_zero, Nat.add_zero]
    rw [← hc]
  | .scanning => simp only [chunkCommand, hp]
  | .done => simp only [chunkCommand, hp]

/-! ### The byte-serial port -/

/-- A state that the next command finds: well formed, in no CHUNK, with no beat to be held. -/
structure State.Ready (s : State) : Prop where
  inv : s.Inv
  phase : s.phase ≠ .scanning
  presented : s.presented = none

theorem State.Ready.with_inputs {s : State} (h : s.Ready) (inputs : List Input) : State.Ready { s with inputs := inputs } :=
  ⟨h.inv.with_host_side inputs s.presented, h.phase, h.presented⟩

/-- After a command the state is ready for the next one. -/
theorem State.Ready.apply {s : State} (h : s.Ready) (c : Command) : (c.apply s).Ready :=
  ⟨h.inv.apply c, apply_phase c h.phase, (apply_host_side c s).2.trans h.presented⟩

/-- A ready state takes a sample that presents a command, and that command is carried out (R134 to R136). -/
theorem State.Ready.step {s : State} (h : s.Ready) {c : Command} {x : Input} {rest : List Input}
    (hx : ∀ u : State, inputEffect x u = c.apply { u with presented := none }) (hi : s.inputs = x :: rest) :
    step s = .next (c.apply { s with inputs := rest }) := by
  rw [step_of_not_scanning h.phase, takeInput_of_cons hi h.presented, hx]
  simp only [h.presented]

/-- The `DATA` beats of a CHUNK, one step each, carry it out (R76, R136). -/
theorem runSteps_data (bytes : List Byte) {s : State} (h : s.Ready) {rest : List Input}
    (hi : s.inputs = bytes.map (beat 0#2) ++ rest) :
    runSteps bytes.length s = .next (chunkCommand bytes { s with inputs := rest }) := by
  induction bytes generalizing s with
  | nil =>
    obtain rfl : s.inputs = rest := hi
    rw [chunkCommand_nil h.inv]
    rfl
  | cons b bs ih =>
    have hstep : step s = .next ((Command.chunk [b]).apply { s with inputs := bs.map (beat 0#2) ++ rest }) :=
      h.step (fun _ => rfl) hi
    have hrest := ih ((h.with_inputs _).apply (.chunk [b])) (apply_host_side (.chunk [b]) _).1
    have hcut := chunkCommand_append [b] bs (h.with_inputs rest).inv.cursor_le
    rw [← apply_with_inputs] at hrest
    exact (runSteps_succ bs.length hstep).trans (hrest.trans (congrArg _ hcut.symm))

/-- The port's samples of a command, one step each, carry it out (R76, R136). -/
theorem runSteps_portInputs (c : Command) {s : State} (h : s.Ready) {rest : List Input}
    (hi : s.inputs = c.portInputs ++ rest) :
    runSteps c.portInputs.length s = .next (c.apply { s with inputs := rest }) := by
  cases c with
  | chunk bytes =>
    rw [Command.portInputs, List.length_map]
    exact runSteps_data bytes h hi
  | reset => exact runSteps_succ 0 (h.step (fun _ => rfl) hi)
  | eos => exact runSteps_succ 0 (h.step (fun _ => rfl) hi)
  | fail cause => exact runSteps_succ 0 (h.step (fun _ => rfl) hi)
  | rsvd3 => exact runSteps_succ 0 (h.step (fun _ => rfl) hi)

/-- The port's samples of a command sequence, one step each, carry it out: after each command the samples of the rest are
left and the state is ready again. -/
theorem runSteps_portCommands (cs : List Command) {s : State} (h : s.Ready)
    (hi : s.inputs = cs.flatMap Command.portInputs) :
    runSteps s.inputs.length s = .next (runCommands cs { s with inputs := [] }) := by
  induction cs generalizing s with
  | nil =>
    have hself : { s with inputs := [] } = s := by rw [← show s.inputs = [] from hi]
    rw [hi, hself]
    rfl
  | cons c cs ih =>
    have hinputs := (apply_host_side c { s with inputs := cs.flatMap Command.portInputs }).1
    have hrest := ih ((h.with_inputs _).apply c) hinputs
    rw [hinputs, ← apply_with_inputs] at hrest
    rw [hi, List.flatMap_cons, List.length_append]
    exact (runSteps_add _ _ (runSteps_portInputs c h hi)).trans hrest

/-- Settles O57: the state is ready for the first command. -/
theorem portBeatsCarryOutCommands : Obligations.PortBeatsCarryOutCommands :=
  fun cs _ hinv hphase hpresented hi => runSteps_portCommands cs ⟨hinv, hphase, hpresented⟩ hi

end Sys2Proof.Machine
end

section
/-! SUPPORT. The header decoder's own statements (R80 to R97): its rejection, its formula, the table form that equals
it, and the ports that carry it. -/

namespace Sys2Proof.Machine

/-! ### The formula -/

/-- `VALIDATE` rejects a zero table value (R85). -/
theorem rejects_iff (kbps hz : Nat) : rejects kbps hz = true ↔ kbps = 0 ∨ hz = 0 := by
  rw [rejects, Bool.or_eq_true, beq_iff_eq, beq_iff_eq]

/-- The decoder rejects exactly where a table value is 0 (R85, R87). -/
theorem decodeFields_eq_rejected_iff (br : BitVec 4) (sr : BitVec 2) (pad : BitVec 1) :
    decodeFields br sr pad = .rejected ↔ brLookup br = 0 ∨ srLookup sr = 0 := by
  rw [← rejects_iff, decodeFields]
  split
  next hrejects => exact iff_of_true rfl hrejects
  next haccepts => exact iff_of_false nofun haccepts

/-- Elsewhere it gives the length of the formula (R86, R87). -/
theorem decodeFields_eq_frameLength_iff (br : BitVec 4) (sr : BitVec 2) (pad : BitVec 1) (len : Nat) :
    decodeFields br sr pad = .frameLength len ↔
      ¬(brLookup br = 0 ∨ srLookup sr = 0) ∧ len = 144 * brLookup br * 1000 / srLookup sr + pad.toNat := by
  rw [← rejects_iff, decodeFields]
  split
  next hrejects => exact ⟨nofun, fun h => absurd hrejects h.1⟩
  next haccepts => exact ⟨fun h => ⟨haccepts, (DecodeResult.frameLength.inj h).symm⟩, fun h => h.2 ▸ rfl⟩

/-- `BR_LOOKUP` reads the source's bitrate table (R8, R82). -/
theorem bitrates_getElem? (br : BitVec 4) :
    [0, 32, 40, 48, 56, 64, 80, 96, 112, 128, 160, 192, 224, 256, 320, 0][br.toNat]? = some (brLookup br) :=
  List.getElem?_eq_getElem br.isLt

/-- `SR_LOOKUP` reads the source's sample-rate table (R8, R83). -/
theorem sampleRates_getElem? (sr : BitVec 2) : [44100, 48000, 32000, 0][sr.toNat]? = some (srLookup sr) :=
  List.getElem?_eq_getElem sr.isLt

/-- Settles O9: the table values decide, and the reserved indices are where they are 0. -/
theorem decodeRejectsReservedIndices : Obligations.DecodeRejectsReservedIndices :=
  fun _ => ⟨decodeFields_eq_rejected_iff .., decodeFields_rejected_iff ..⟩

/-- Settles O10: the source's tables hold the values that the formula is of. -/
theorem frameLengthFormula : Obligations.FrameLengthFormula := by
  intro hdr len
  rw [decodeHdr, decodeFields_eq_frameLength_iff, bitrates_getElem?, sampleRates_getElem?]
  simp [and_assoc]

/-! ### The table form -/

/-- A base is 0 exactly where the decoder rejects (R91). -/
theorem tableBase_eq_zero_iff : ∀ (br : BitVec 4) (sr : BitVec 2),
    tableBase br sr = 0 ↔ rejects (brLookup br) (srLookup sr) = true := by
  decide

/-- Every other base is the formula's length without padding (R91). -/
theorem tableBase_eq_frameLen : ∀ (br : BitVec 4) (sr : BitVec 2), rejects (brLookup br) (srLookup sr) = false →
    tableBase br sr = frameLen (brLookup br) (srLookup sr) 0 := by
  decide

/-- The padding is added after the division (R86). -/
theorem frameLen_eq_add_pad (kbps hz pad : Nat) : frameLen kbps hz pad = frameLen kbps hz 0 + pad := rfl

/-- The table form is the decoder on the three fields (R96). -/
theorem tableFields_eq_decodeFields (br : BitVec 4) (sr : BitVec 2) (pad : BitVec 1) :
    tableFields br sr pad = decodeFields br sr pad := by
  rw [tableFields, decodeFields]
  refine ite_congr (propext (tableBase_eq_zero_iff br sr)) (fun _ => rfl) fun haccepted => ?_
  rw [tableBase_eq_frameLen br sr (Bool.eq_false_iff.mpr haccepted), ← frameLen_eq_add_pad]

/-- Settles O11, on the fields of the word. -/
theorem tableFormIsTheDecoder : Obligations.TableFormIsTheDecoder :=
  fun _ => tableFields_eq_decodeFields ..

/-! ### The range -/

/-- Settles O12: the bounds hold of every header, the rest is computed over the 128 field values. -/
theorem frameLengthRange : Obligations.FrameLengthRange := by
  refine ⟨fun _ _ => decodeHdr_length, rfl, rfl, ?count, ?distinct, rfl, rfl, rfl⟩
  case count => decide
  case distinct => decide

/-! ### The ports -/

/-- Nine bits hold every bitrate (R80). -/
theorem brLookup_lt : ∀ br : BitVec 4, brLookup br < 2 ^ 9 := by decide

/-- Sixteen bits hold every sample rate (R80). -/
theorem srLookup_lt : ∀ sr : BitVec 2, srLookup sr < 2 ^ 16 := by decide

/-- A one-bit port is 1 exactly when its flag holds. -/
theorem ofBool_eq_one_iff : ∀ flag : Bool, BitVec.ofBool flag = 1#1 ↔ flag = true := by decide

/-- What the decoder ports show of a rejected header (R80). -/
theorem decoderPorts_of_rejected {hdr : Hdr} (h : decodeHdr hdr = .rejected) :
    (decoderPorts hdr).accepted = 0#1 ∧ (decoderPorts hdr).frameLen = 0#11 := by
  simp [decoderPorts, h, DecodeResult.accepts]

/-- What they show of one with a length, which eleven bits hold (R80, R93). -/
theorem decoderPorts_of_frameLength {hdr : Hdr} {len : Nat} (h : decodeHdr hdr = .frameLength len) :
    (decoderPorts hdr).accepted = 1#1 ∧ (decoderPorts hdr).frameLen.toNat = len := by
  have hlt : len < 2048 := by
    have hrange := decodeHdr_length h
    omega
  simp [decoderPorts, h, DecodeResult.accepts, hlt]

/-- Settles O13, port by port: a table value fits its port, and the rest goes by the decoder's answer. -/
theorem decoderPortsCarryTheDecode : Obligations.DecoderPortsCarryTheDecode := by
  intro hdr
  refine ⟨?_, rfl, rfl, rfl, ?_, ?_, fun _ => decoderPorts_of_frameLength, decoderPorts_of_rejected, ?_⟩
  · exact ofBool_eq_one_iff (syncMatch hdr)
  · exact (BitVec.toNat_ofNat ..).trans (Nat.mod_eq_of_lt (brLookup_lt _))
  · exact (BitVec.toNat_ofNat ..).trans (Nat.mod_eq_of_lt (srLookup_lt _))
  · exact BitVec.ofBool_and_ofBool.symm

end Sys2Proof.Machine
end

section
/-! SUPPORT. The one way a step can stop (R153, R170): a beat that the host was to hold and did not. -/

namespace Sys2Proof.Machine

/-- Waiting and taking an input give a next state, unless there is a beat to hold and the input does not. -/
theorem takeInput_next_or_refused (s : State) :
    (∃ t, takeInput s = .next t) ∨ (s.presented ≠ none ∧ takeInput s = .refused .beatNotHeld) := by
  obtain ⟨-, e⟩ | ⟨x, rest, -, ⟨-, e⟩ | ⟨hnot, e⟩⟩ := takeInput_cases s
  · exact .inl ⟨_, e⟩
  · exact .inl ⟨_, e⟩
  · refine .inr ⟨fun hnone => ?_, e⟩
    rw [hnone, keepsBeat_none] at hnot
    cases hnot

/-- A step is safe, or there is a beat to hold and it is refused: an iteration of the loop never stops. -/
theorem safe_or_refused (s : State) : s.Safe ∨ (s.presented ≠ none ∧ step s = .refused .beatNotHeld) := by
  obtain e | ⟨-, e⟩ := step_cases s
  · rw [State.Safe, e]
    exact takeInput_next_or_refused s
  · exact .inl ⟨_, e.trans (scanIteration_eq s)⟩

/-- Settles O47: with no beat to hold, only the safe case is left. -/
theorem stepsStopOnlyOnABeatNotHeld : Obligations.StepsStopOnlyOnABeatNotHeld :=
  fun s => ⟨fun hnone => (safe_or_refused s).resolve_right fun h => h.1 hnone, safe_or_refused s⟩

end Sys2Proof.Machine
end

section
/-! SUPPORT. The scan loop's trace (R107, R108, R112): how many steps it has, how it ends, and that it passes over the
bodies of the frames it accepts. -/

namespace Sys2Proof.Machine

variable {causeW : Nat}

/-! ### Termination -/

/-- The trace where the scan step halts is that one step. -/
theorem scanTrace_of_halts {s : State causeW} (h : (scanStep s).1.halts = true) :
    scanTrace s = [(s.logicalCursor, (scanStep s).1)] := by
  rw [scanTrace_unroll, if_pos h, State.logicalCursor]

/-- Where it continues, the trace goes on from the next state. -/
theorem scanTrace_of_continues {s : State causeW} (h : (scanStep s).1.halts = false) :
    scanTrace s = (s.logicalCursor, (scanStep s).1) :: scanTrace (scanStep s).2 := by
  rw [scanTrace_unroll, if_neg (by simp [h]), State.logicalCursor]

/-- The loop ends at once where the scan step halts. -/
theorem scanLoop_of_halts {s : State causeW} (h : (scanStep s).1.halts = true) : scanLoop s = s := by
  rw [scanLoop_unroll, if_pos h]

/-- Where it continues, the loop goes on from the next state. -/
theorem scanLoop_of_continues {s : State causeW} (h : (scanStep s).1.halts = false) :
    scanLoop s = scanLoop (scanStep s).2 := by
  rw [scanLoop_unroll, if_neg (by simp [h])]

/-- A continuing step has at least the four bytes of a header ahead. -/
theorem cursor_add_four_le_of_continues {s : State causeW} (h : (scanStep s).1.halts = false) :
    s.cursor + 4 ≤ s.pending.length :=
  (memRead4_isSome_iff ..).mp (exists_read_of_continues h)

/-- An `ACCEPT` of a length moves the cursor on by it, and it is at least 96 (R93, R103). -/
theorem cursor_of_accept {s : State causeW} {len : Nat} (h : (scanStep s).1 = .accept len) :
    96 ≤ len ∧ (scanStep s).2.cursor = s.cursor + len := by
  obtain ⟨-, e⟩ | ⟨hdr, -, -, ⟨-, e⟩ | ⟨-, e⟩ | ⟨found, -, hmin, -, e⟩ | ⟨found, -, -, -, e⟩⟩ := scanStep_cases s <;>
    rw [e] at h ⊢ <;> cases h
  exact ⟨hmin, rfl⟩

/-- The loop's trace is at most `n - 3 - cursor` continuing steps and a halting one, whose outcome is that of the state
the loop ends in (R108). -/
theorem scanTrace_shape (s : State causeW) :
    ∃ (before : List (Nat × StepOutcome)) (last : Nat × StepOutcome), scanTrace s = before ++ [last] ∧
      before.length ≤ s.pending.length - 3 - s.cursor ∧ (∀ e ∈ before, e.2.halts = false) ∧ last.2.halts = true ∧
      scanStep (scanLoop s) = (last.2, scanLoop s) := by
  induction s using scanLoop_induction with
  | halt s hh =>
    refine ⟨[], _, scanTrace_of_halts hh, Nat.zero_le _, nofun, hh, ?_⟩
    rw [scanLoop_of_halts hh]
    exact Prod.ext rfl (scanStep_of_halts s hh)
  | more s hh ih =>
    obtain ⟨before, last, htrace, hlength, hbefore, hlast, hend⟩ := ih
    refine ⟨(s.logicalCursor, (scanStep s).1) :: before, last, ?_, ?_, ?_, hlast, ?_⟩
    · rw [scanTrace_of_continues hh, htrace, List.cons_append]
    · have hheader := cursor_add_four_le_of_continues hh
      have hprogress := scanStep_progress s hh
      rw [(scanStep_frame s).1] at hlength
      rw [List.length_cons]
      omega
    · exact List.forall_mem_cons.mpr ⟨hh, hbefore⟩
    · rw [scanLoop_of_continues hh, hend]

/-- Settles O23: the progress of a continuing step, and the trace's shape from cursor 0. -/
theorem scanLoopTerminates : Obligations.ScanLoopTerminates := by
  refine ⟨fun s hh => ?_, fun s hcursor => ⟨?_, ?_⟩⟩
  · obtain ⟨hmoved, hinside⟩ := scanStep_progress s hh
    exact ⟨hmoved, hinside, (scanStep_frame s).1, fun _ => cursor_of_accept⟩
  · have hshape := scanTrace_shape s
    rwa [hcursor] at hshape
  · exact (scanLoop_cursor s (by omega)).2

/-! ### The bodies of frames -/

/-- The logical cursor after a scan step. -/
theorem scanStep_logicalCursor (s : State causeW) :
    (scanStep s).2.logicalCursor = s.consumed + (scanStep s).2.cursor := by
  obtain ⟨-, -, -, -, -, hconsumed, -⟩ := scanStep_frame s
  rw [State.logicalCursor, hconsumed]

/-- Every step of the trace is at the logical cursor or past it (R115). -/
theorem logicalCursor_le_of_mem_scanTrace (s : State causeW) :
    ∀ e ∈ scanTrace s, s.logicalCursor ≤ e.1 := by
  induction s using scanLoop_induction with
  | halt s hh => simp [scanTrace_of_halts hh]
  | more s hh ih =>
    have hprogress := scanStep_progress s hh
    have hnext := scanStep_logicalCursor s
    rw [scanTrace_of_continues hh]
    refine List.forall_mem_cons.mpr ⟨Nat.le_refl _, fun e he => le_trans ?_ (ih e he)⟩
    rw [hnext, State.logicalCursor]
    omega

/-- Along the trace, the steps up to an `ACCEPT` are not past it and those after it are past its frame (R112). -/
theorem scanTrace_outside_frames (s : State causeW) :
    ∀ a ∈ scanTrace s, ∀ len, a.2 = .accept len → ∀ e ∈ scanTrace s, e.1 ≤ a.1 ∨ a.1 + len ≤ e.1 := by
  induction s using scanLoop_induction with
  | halt s hh => simp [scanTrace_of_halts hh]
  | more s hh ih =>
    intro a ha len hacc e he
    have hfirst := logicalCursor_le_of_mem_scanTrace s a ha
    rw [scanTrace_of_continues hh, List.mem_cons] at ha he
    obtain rfl | he := he
    · exact .inl hfirst
    obtain rfl | ha := ha
    · -- the accepted frame is jumped over, and the rest of the trace starts behind it
      right
      have hcursor := (cursor_of_accept hacc).2
      have hrest := logicalCursor_le_of_mem_scanTrace _ e he
      rw [scanStep_logicalCursor, hcursor] at hrest
      rw [State.logicalCursor]
      omega
    · exact ih a ha len hacc e he

/-- Settles O25; the frames are passed over from any cursor. -/
theorem frameBodiesAreNotFetched : Obligations.FrameBodiesAreNotFetched :=
  fun s _ len _ _ _ haccept hstep => scanTrace_outside_frames s _ haccept len rfl _ hstep

end Sys2Proof.Machine
end

section
/-! SUPPORT. The scan step's own statements (R99 to R106): the rows' advance, the five outcomes, the floor, and the
logical cursor that no step but RESET moves back (R115). -/

namespace Sys2Proof.Machine

variable {causeW : Nat}

/-! ### The rows and the outcomes -/

/-- Settles O15: the guard holds, so a `NOSYNC` row's `S_SKIP` advances. -/
theorem noSyncRowsSkipOneByte : Obligations.NoSyncRowsSkipOneByte := by
  intro i s hkind hheader
  rw [exec_of_nosync hkind, sSkip_of_guard s ((loopGuard_iff s).mpr hheader)]

/-- Settles O16: `S_REJECT` is the advance of `S_SKIP`. -/
theorem rejectRowsAdvanceOneByte : Obligations.RejectRowsAdvanceOneByte := by
  intro i s hkind hheader
  rw [exec_of_reject hkind, sReject_eq_sSkip, sSkip_of_guard s ((loopGuard_iff s).mpr hheader)]

/-- Settles O20: below the floor by the floor's rule, else by the class of the header, which its sync and its decode
decide. -/
theorem scanStepOutcomes : Obligations.ScanStepOutcomes := by
  refine ⟨fun _ => scanStep_of_short, fun s hdr hread => ?header, rfl, rfl, fun _ => ⟨rfl, rfl⟩, rfl⟩
  rw [scanStep_of_read hread]
  refine ⟨fun hsync => ?_, fun hsync hdecode => ?_, fun len hsync hdecode hfit => ?_, fun len hsync hdecode hshort => ?_⟩
  · rw [(classify_nosync_iff hdr).mpr hsync, headerStep]
  · rw [(classify_reject_iff hdr).mpr ⟨hsync, hdecode⟩, headerStep]
  · rw [(classify_valid_iff hdr len).mpr ⟨hsync, hdecode⟩, headerStep, if_pos hfit, sAccept]
  · rw [(classify_valid_iff hdr len).mpr ⟨hsync, hdecode⟩, headerStep, if_neg (Nat.not_le.mpr hshort)]

/-! ### Below the floor -/

/-- Below the floor the guard fails (R99). -/
theorem loopGuard_of_short {s : State causeW} (h : s.pending.length < s.cursor + 4) : loopGuard s = false := by
  rw [Bool.eq_false_iff, ne_eq, loopGuard_iff]
  omega

/-- Below the floor a header row changes nothing (log entry 10). -/
theorem exec_hdrRow_of_short {i : Instr} {s : State} (hkind : i.hdrKind.isSome = true)
    (h : s.pending.length < s.cursor + 4) : exec i s = .next s := by
  have hg := loopGuard_of_short h
  match hk : i.hdrKind with
  | some .nosync => rw [exec_of_nosync hk, sSkip_of_not_guard s hg]
  | some .reject => rw [exec_of_reject hk, sReject_eq_sSkip, sSkip_of_not_guard s hg]
  | some .valid =>
    obtain ⟨len, hlen⟩ := exec_of_valid hk s
    simp [hlen, sValid, hg]
  | none => simp [hk] at hkind

/-- Settles O19. -/
theorem belowFloorExhausts : Obligations.BelowFloorExhausts := by
  intro s h
  have hfetch : fetchInstr s = .error .headerTooShort := decodeBytes_short (by rw [List.length_drop]; omega)
  exact ⟨scanStep_of_short h, (hdrFetch_eq_none_iff s).mpr h, hfetch, fun _ hkind => exec_hdrRow_of_short hkind h⟩

/-- Settles O43: the iteration is an `EXHAUST`, which halts. -/
theorem stepEndsAnExhaustedScan : Obligations.StepEndsAnExhaustedScan := by
  intro s hphase hrst h
  rw [step_of_scanning hphase hrst, scanIteration_eq, scanStep_of_short h]
  rfl

/-! ### The logical cursor -/

/-- No scan step moves the cursor back (R115). -/
theorem cursor_le_scanStep (s : State causeW) : s.cursor ≤ (scanStep s).2.cursor := by
  match hh : (scanStep s).1.halts with
  | true => rw [scanStep_of_halts s hh]
  | false => exact (scanStep_progress s hh).1.le

/-- Nor does the loop, wherever it starts. -/
theorem cursor_le_scanLoop (s : State causeW) : s.cursor ≤ (scanLoop s).cursor := by
  induction s using scanLoop_induction with
  | halt s hh => rw [scanLoop_of_halts hh]
  | more s hh ih =>
    rw [scanLoop_of_continues hh]
    exact (cursor_le_scanStep s).trans ih

/-- A scan step moves the logical cursor with the cursor, since it drops nothing. -/
theorem logicalCursor_le_scanStep (s : State causeW) : s.logicalCursor ≤ (scanStep s).2.logicalCursor := by
  obtain ⟨-, -, -, -, -, hconsumed, -⟩ := scanStep_frame s
  rw [State.logicalCursor, State.logicalCursor, hconsumed]
  exact Nat.add_le_add_left (cursor_le_scanStep s) _

/-- A CHUNK's loop moves the logical cursor on, and `COMPACT` keeps it (R109, R115). -/
theorem logicalCursor_le_scanChunk (chunk : List Byte) (s : State causeW) :
    s.logicalCursor ≤ (scanChunk chunk s).logicalCursor := by
  obtain ⟨-, -, -, -, -, hconsumed, -⟩ := scanLoop_frame (append chunk s)
  have hcursor := cursor_le_scanLoop (append chunk s)
  simp only [append_cursor, append_consumed] at hcursor hconsumed
  simp only [State.logicalCursor, scanChunk, compact_consumed, compact_cursor, hconsumed]
  omega

/-- The end of a scan drops what is pending, and the cursor stays (R152). -/
theorem logicalCursor_le_terminate (r : Result) (s : State causeW) :
    s.logicalCursor ≤ (terminate r s).logicalCursor := by
  simp only [State.logicalCursor, terminate_consumed, terminate_cursor]
  omega

/-- No command but RESET moves the logical cursor back. -/
theorem logicalCursor_le_apply {c : Command causeW} (hc : c ≠ .reset) (s : State causeW) :
    s.logicalCursor ≤ (c.apply s).logicalCursor := by
  cases c with
  | reset => exact absurd rfl hc
  | chunk bytes =>
    simp only [Command.apply, chunkCommand]
    split
    · exact logicalCursor_le_scanChunk bytes s
    · exact Nat.le_refl _
    · exact Nat.le_refl _
  | eos =>
    simp only [Command.apply, eosCommand]
    split
    · rw [endOfData_eq]
      exact logicalCursor_le_terminate _ s
    · exact Nat.le_refl _
    · exact Nat.le_refl _
  | fail cause =>
    simp only [Command.apply, failCommand]
    split
    · exact logicalCursor_le_terminate .sourceReadFailure s
    · exact Nat.le_refl _
    · exact Nat.le_refl _
  | rsvd3 => exact Nat.le_refl _

/-- A port sample with `rst = 0` that is taken is a command other than RESET (R134 to R136). -/
theorem edgeEffect_eq_apply_of_not_rst {p : PortIn} (hrst : p.rst = false) (s : State) :
    ∃ c : Command, c ≠ .reset ∧ edgeEffect p s = c.apply s := by
  rw [edgeEffect, if_neg (by simp [hrst])]
  split
  · split
    · exact ⟨.chunk [p.inData], nofun, rfl⟩
    · exact ⟨.eos, nofun, rfl⟩
    · exact ⟨.fail p.inData, nofun, rfl⟩
    · exact ⟨.rsvd3, nofun, rfl⟩
  · exact ⟨.rsvd3, nofun, rfl⟩

/-- An input that is taken, other than a sample with `rst = 1`, does not move the logical cursor back. -/
theorem logicalCursor_le_inputEffect {x : Input} (hrst : x.isRst = false) (s : State) :
    s.logicalCursor ≤ (inputEffect x s).logicalCursor := by
  cases x with
  | edge p =>
    obtain ⟨c, hc, e⟩ := edgeEffect_eq_apply_of_not_rst hrst { s with presented := presentedAfter p }
    rw [inputEffect, e]
    exact logicalCursor_le_apply hc { s with presented := presentedAfter p }
  | chunk bytes =>
    simp only [inputEffect, openChunk]
    split <;> exact Nat.le_refl _

/-- The oldest input is not a sample with `rst = 1` where `rst` is low. -/
theorem isRst_eq_false_of_head {s : State} {x : Input} {rest : List Input} (hi : s.inputs = x :: rest)
    (hrst : rstAsserted s = false) : x.isRst = false := by
  rw [rstAsserted, hi] at hrst
  cases x with
  | edge p => exact hrst
  | chunk bytes => rfl

/-- Settles O49, by the two things a step can be. -/
theorem logicalCursorIsMonotonic : Obligations.LogicalCursorIsMonotonic := by
  intro s t hrst ht
  obtain e | ⟨-, e⟩ := step_cases s <;> rw [e] at ht
  · obtain ⟨-, e⟩ | ⟨x, rest, hi, ⟨-, e⟩ | ⟨-, e⟩⟩ := takeInput_cases s <;> rw [e] at ht <;> cases ht
    · exact Nat.le_refl _
    · exact logicalCursor_le_inputEffect (isRst_eq_false_of_head hi hrst) { s with inputs := rest }
  · rw [scanIteration_eq] at ht
    cases ht
    split
    · exact Nat.le_refl _
    · exact logicalCursor_le_scanStep s

end Sys2Proof.Machine
end

section
/-! SUPPORT. The CHUNK's own statements (R113 to R119): what it leaves in `pending`, that only the bytes matter and not
their cuts, and a single frame behind garbage or cut in two. -/

namespace Sys2Proof.Machine

variable {causeW : Nat}

/-! ### What a CHUNK leaves -/

theorem chunkCommand_of_idle {s : State causeW} (h : s.phase = .idle) (bytes : List Byte) :
    chunkCommand bytes s = scanChunk bytes s := by
  simp only [chunkCommand, h]

/-- A CHUNK leaves settled bytes, since its loop ends where the scan step halts (R113). -/
theorem settled_scanChunk (bytes : List Byte) (s : State causeW) : Settled (scanChunk bytes s).pending :=
  settled_of_halts (scanLoop_halts (append bytes s))

/-- A suspended frame has its header (R104). -/
theorem SuspendedOn.four_le_length {bytes : List Byte} (h : SuspendedOn bytes) : 4 ≤ bytes.length := by
  obtain ⟨hdr, -, hread, -⟩ := h
  simpa using (memRead4_isSome_iff bytes 0).mp ⟨hdr, hread⟩

/-- Settled bytes are fewer than the greatest frame length, 1441 (R93, R113). -/
theorem Settled.length_le {bytes : List Byte} (h : Settled bytes) : bytes.length ≤ 1440 := by
  obtain hfloor | ⟨hdr, len, -, hclass, hshort⟩ := h
  · omega
  · have hrange := classify_valid_length hclass
    omega

/-- Settles O27. -/
theorem chunkLeavesSettledPending : Obligations.ChunkLeavesSettledPending := by
  intro causeW bytes s hphase _
  have hsettled := settled_scanChunk bytes s
  rw [chunkCommand_of_idle hphase]
  refine ⟨hsettled, fun h => ?_, hsettled.length_le, fun h => ?_⟩
  · obtain ⟨hfloor, hsuspended⟩ := h
    exact Nat.not_le.mpr hfloor hsuspended.four_le_length
  · rw [append_pending, List.length_append, Config.pendingCap, Nat.add_comm]
    exact Nat.add_le_add_left h.length_le _

/-! ### A sequence of CHUNKs -/

/-- A sequence of CHUNKs is one CHUNK of their bytes (R116). -/
theorem runCommands_chunks (cuts : List (List Byte)) {s : State causeW} (h : s.Inv) :
    runCommands (cuts.map .chunk) s = chunkCommand cuts.flatten s := by
  induction cuts generalizing s with
  | nil => exact (chunkCommand_nil h).symm
  | cons bytes cuts ih =>
    calc runCommands ((bytes :: cuts).map .chunk) s
        = chunkCommand cuts.flatten (chunkCommand bytes s) := ih (h.apply (.chunk bytes))
      _ = chunkCommand (bytes :: cuts).flatten s := (chunkCommand_append bytes cuts.flatten h.cursor_le).symm

/-- Settles O53: a CHUNK is its parts, and a sequence of CHUNKs is one. -/
theorem chunkBoundariesDoNotMatter : Obligations.ChunkBoundariesDoNotMatter := by
  refine ⟨fun s a b hinv _ => chunkCommand_append a b hinv.cursor_le, fun causeW cuts₁ cuts₂ hsame => ?_⟩
  rw [runCommands_chunks cuts₁ (inv_resetAt causeW), runCommands_chunks cuts₂ (inv_resetAt causeW), hsame]

/-! ### One frame at the end of the bytes -/

/-- The header read of a sequence behind another one. -/
theorem memRead4_append_right (bytes more : List Byte) : memRead4 (bytes ++ more) bytes.length = memRead4 more 0 := by
  rw [← Nat.add_zero bytes.length, ← memRead4_drop, List.drop_left]

/-- A frame that ends the bytes is accepted, and then nothing is left (R103, R105). -/
theorem scan_lastFrame {s : State causeW} {hdr : Hdr} {len : Nat} (hread : memRead4 s.pending s.cursor = some hdr)
    (hclass : classify hdr = .valid len) (hend : s.cursor + len = s.pending.length) :
    scanTrace s = [(s.logicalCursor, .accept len), (s.logicalCursor + len, .exhaust)] ∧ scanLoop s = sAccept len s := by
  have haccept : scanStep s = (.accept len, sAccept len s) := by
    rw [scanStep_of_read hread, hclass, headerStep, if_pos hend.le]
  have hexhaust : scanStep (sAccept len s) = (.exhaust, sAccept len s) :=
    scanStep_of_short (by rw [sAccept_pending, sAccept_cursor]; omega)
  have hcontinues : (scanStep s).1.halts = false := by rw [haccept]; rfl
  have hhalts : (scanStep (sAccept len s)).1.halts = true := by rw [hexhaust]; rfl
  constructor
  · rw [scanTrace_of_continues hcontinues, haccept, scanTrace_of_halts hhalts, hexhaust, State.logicalCursor,
      State.logicalCursor, sAccept_consumed, sAccept_cursor, Nat.add_assoc]
  · rw [scanLoop_of_continues hcontinues, haccept, scanLoop_of_halts hhalts]

/-- `EOS` with one frame counted delivers that count (R126, R130). -/
theorem eosCommand_output {s : State causeW} (hphase : s.phase = .idle) (hne : s.nonEmpty = true)
    (hcount : s.frameCount = 1) : (eosCommand s).output = some (.count 1) := by
  simp only [eosCommand, hphase, endOfData_eq, hne, hcount]
  exact congrArg (fun n => some (ScanOutput.count n)) hcount

/-! ### Garbage before a frame -/

/-- At no position before `limit` a valid header stands (R118). -/
def NoValidBefore (limit : Nat) (bytes : List Byte) : Prop :=
  ∀ p h, p < limit → memRead4 bytes p = some h → ∀ len, classify h ≠ .valid len

/-- Where no valid header stands, the scan step advances one byte (R101, R102). -/
theorem scanStep_of_noValidBefore {s : State causeW} {limit : Nat} (h : NoValidBefore limit s.pending)
    (hcursor : s.cursor < limit) (hheader : s.cursor + 4 ≤ s.pending.length) :
    ∃ o, (o = .skip ∨ o = .reject) ∧ scanStep s = (o, { s with cursor := s.cursor + 1 }) := by
  obtain ⟨hdr, hread⟩ := (memRead4_isSome_iff s.pending s.cursor).mpr hheader
  rw [scanStep_of_read hread]
  match hc : classify hdr with
  | .nosync => exact ⟨.skip, .inl rfl, rfl⟩
  | .reject => exact ⟨.reject, .inr rfl, rfl⟩
  | .valid len => exact absurd hc (h s.cursor hdr hcursor hread len)

/-- The loop goes over `k` such positions by as many `SKIP` or `REJECT` steps. -/
theorem scan_noValidBefore {limit k : Nat} {s : State causeW} (h : NoValidBefore limit s.pending)
    (hk : s.cursor + k = limit) (hheader : limit + 4 ≤ s.pending.length) :
    ∃ before, scanTrace s = before ++ scanTrace { s with cursor := limit } ∧ before.length = k ∧
      (∀ e ∈ before, e.2 = .skip ∨ e.2 = .reject) ∧ scanLoop s = scanLoop { s with cursor := limit } := by
  induction k generalizing s with
  | zero =>
    obtain rfl : s.cursor = limit := hk
    exact ⟨[], rfl, rfl, nofun, rfl⟩
  | succ k ih =>
    obtain ⟨o, ho, hstep⟩ := scanStep_of_noValidBefore h (by omega) (by omega)
    have hcontinues : (scanStep s).1.halts = false := by
      obtain rfl | rfl := ho <;> rw [hstep] <;> rfl
    obtain ⟨before, htrace, hlength, hbefore, hloop⟩ :=
      ih (s := { s with cursor := s.cursor + 1 }) h (by simp only; omega) hheader
    refine ⟨(s.logicalCursor, o) :: before, ?_, by rw [List.length_cons, hlength],
      List.forall_mem_cons.mpr ⟨ho, hbefore⟩, ?_⟩
    · rw [scanTrace_of_continues hcontinues, hstep, htrace, List.cons_append]
    · rw [scanLoop_of_continues hcontinues, hstep, hloop]

/-- The first byte of a header whose sync matches is `0xFF` (R81). -/
theorem first_byte_of_syncMatch {b0 b1 b2 b3 : Byte} (h : syncMatch (hdrOfBytes b0 b1 b2 b3) = true) : b0 = 0xFF#8 := by
  have h1 := b1.isLt
  have h2 := b2.isLt
  have h3 := b3.isLt
  rw [syncMatch_iff_hdrSync, ← BitVec.toNat_inj, hdrSync_toNat, hdrOfBytes_toNat, BitVec.toNat_ofNat] at h
  rw [← BitVec.toNat_inj, BitVec.toNat_ofNat]
  omega

/-- Bytes without `0xFF` start no valid header, whatever follows them (R118). -/
theorem noValidBefore_of_forall_ne {garbage : List Byte} (h : ∀ b ∈ garbage, b ≠ 0xFF#8) (more : List Byte) :
    NoValidBefore garbage.length (garbage ++ more) := by
  intro p hdr hp hread len hclass
  obtain ⟨b0, b1, b2, b3, hb0, -, -, -, rfl⟩ := (memRead4_eq_some_iff _ p hdr).mp hread
  rw [List.getElem?_append_left hp] at hb0
  exact h b0 (List.mem_of_getElem? hb0) (first_byte_of_syncMatch ((classify_valid_iff _ len).mp hclass).1)

/-- The loop goes over the garbage, accepts the frame behind it and has nothing left (R118). -/
theorem scan_frameBehindGarbage {s : State causeW} {garbage frame : List Byte} {hdr : Hdr} (hcursor : s.cursor = 0)
    (hpending : s.pending = garbage ++ frame) (hclear : NoValidBefore garbage.length (garbage ++ frame))
    (hread : memRead4 frame 0 = some hdr) (hclass : classify hdr = .valid frame.length) :
    (∃ before, scanTrace s = before ++ [(s.consumed + garbage.length, .accept frame.length),
        (s.consumed + garbage.length + frame.length, .exhaust)] ∧
      before.length = garbage.length ∧ ∀ e ∈ before, e.2 = .skip ∨ e.2 = .reject) ∧
    scanLoop s = sAccept frame.length { s with cursor := garbage.length } := by
  have hlength : s.pending.length = garbage.length + frame.length := by rw [hpending, List.length_append]
  have hmin := (classify_valid_length hclass).1
  obtain ⟨before, htrace, hcount, hbefore, hloop⟩ :=
    scan_noValidBefore (limit := garbage.length) (k := garbage.length) (hpending ▸ hclear) (by omega) (by omega)
  obtain ⟨htrace', hloop'⟩ := scan_lastFrame (s := { s with cursor := garbage.length })
    (by rw [hpending, memRead4_append_right, hread]) hclass hlength.symm
  exact ⟨⟨before, by rw [htrace, htrace', State.logicalCursor], hcount, hbefore⟩, by rw [hloop, hloop']⟩

/-- Settles O58: the loop from the reset state with the bytes appended, then `EOS` on what the CHUNK counted. -/
theorem resyncAfterGarbage : Obligations.ResyncAfterGarbage := by
  intro causeW garbage frame hdr hread hclass
  refine ⟨fun hclear => ?_, fun hbytes => noValidBefore_of_forall_ne hbytes frame⟩
  obtain ⟨htrace, hloop⟩ := scan_frameBehindGarbage (s := append (garbage ++ frame) (State.resetAt causeW)) rfl
    (List.nil_append _) hclear hread hclass
  have hcount : (scanLoop (append (garbage ++ frame) (State.resetAt causeW))).frameCount = 1 := by rw [hloop]; rfl
  refine ⟨by simpa using htrace, hcount, ?_⟩
  have hmin := (classify_valid_length hclass).1
  obtain ⟨hphase, -, -, -, -, hne, -⟩ := scanChunk_frame (garbage ++ frame) (State.resetAt causeW)
  refine eosCommand_output hphase (hne.trans ?_) hcount
  simp only [nonEmptyAfter, List.length_append, Bool.or_eq_true, decide_eq_true_eq]
  omega

/-! ### A frame in two chunks -/

/-- With nothing scanned, `COMPACT` drops nothing (R109). -/
theorem compact_of_cursor_zero {s : State causeW} (h : s.cursor = 0) : compact s = s := by
  rw [compact, h, List.drop_zero, Nat.add_zero, ← h]

/-- On the first `k` bytes of a frame the scan step halts: by `EXHAUST` below four bytes, by `SUSPEND` else (R119). -/
theorem scanStep_of_frameStart {s : State causeW} {frame : List Byte} {hdr : Hdr} {k : Nat} (hcursor : s.cursor = 0)
    (hpending : s.pending = frame.take k) (hread : memRead4 frame 0 = some hdr)
    (hclass : classify hdr = .valid frame.length) (hk : k < frame.length) :
    scanStep s = (if k < 4 then .exhaust else .suspend frame.length, s) := by
  have hlength : s.pending.length = k := by rw [hpending, List.length_take_of_le hk.le]
  split
  · exact scanStep_of_short (by omega)
  · -- the header read sees the frame's own four bytes
    obtain ⟨found, hfound⟩ := (memRead4_isSome_iff s.pending s.cursor).mpr (by omega)
    have hsame : memRead4 frame 0 = some found := by
      rw [← List.take_append_drop k frame, ← hpending, ← hcursor]
      exact memRead4_append _ hfound
    obtain rfl : hdr = found := Option.some.inj (hread.symm.trans hsame)
    rw [scanStep_of_read hfound, hclass, headerStep, if_neg (by omega)]

/-- A CHUNK of a whole frame from reset counts it and keeps nothing (R103). -/
theorem chunkCommand_frame_resetAt {frame : List Byte} {hdr : Hdr} (hread : memRead4 frame 0 = some hdr)
    (hclass : classify hdr = .valid frame.length) :
    chunkCommand frame (State.resetAt causeW) =
      { State.resetAt causeW with nonEmpty := true, frameCount := 1, consumed := frame.length } := by
  have hmin := (classify_valid_length hclass).1
  have hloop := (scan_lastFrame (s := append frame (State.resetAt causeW)) hread hclass (Nat.zero_add _)).2
  have hne : 0 < frame.length := by omega
  rw [chunkCommand_of_idle rfl, scanChunk, hloop]
  simp [compact, sAccept, append, nonEmptyAfter, State.resetAt, hne]

/-- Settles O59: the first chunk's loop halts at once, and the two chunks are the CHUNK of the frame (R116). -/
theorem boundarySplitCountsOnce : Obligations.BoundarySplitCountsOnce := by
  intro causeW frame hdr k hread hclass _ hk
  have hstep := scanStep_of_frameStart (s := append (frame.take k) (State.resetAt causeW)) rfl rfl hread hclass hk
  have hhalts : (scanStep (append (frame.take k) (State.resetAt causeW))).1.halts = true := by
    rw [hstep]
    split <;> rfl
  have hfirst : chunkCommand (frame.take k) (State.resetAt causeW) = append (frame.take k) (State.resetAt causeW) := by
    rw [chunkCommand_of_idle rfl, scanChunk, scanLoop_of_halts hhalts, compact_of_cursor_zero rfl]
  have hboth : chunkCommand (frame.drop k) (chunkCommand (frame.take k) (State.resetAt causeW)) =
      { State.resetAt causeW with nonEmpty := true, frameCount := 1, consumed := frame.length } := by
    rw [← chunkCommand_append _ _ (Nat.le_refl 0), List.take_append_drop, chunkCommand_frame_resetAt hread hclass]
  refine ⟨?_, by rw [hfirst]; rfl, by rw [hfirst]; rfl, hboth, ?_⟩
  · rw [scanTrace_of_halts hhalts, hstep]
    rfl
  · exact (congrArg (fun s => (eosCommand s).output) hboth).trans (eosCommand_output rfl rfl rfl)

end Sys2Proof.Machine
end

section
/-! SUPPORT. The host commands' own statements (R122 to R141): what each command does in `IDLE`, that all but RESET do
nothing elsewhere, what a whole scan delivers, and that the two drivers agree. -/

namespace Sys2Proof.Machine

variable {causeW : Nat}

/-! ### A command, by the phase -/

/-- `EOS` in `IDLE` is terminal entry with the outcome of R126. -/
theorem eosCommand_of_idle {s : State causeW} (h : s.phase = .idle) :
    eosCommand s = terminate (eosResult s.nonEmpty s.frameCount) s := by
  simp only [eosCommand, h, endOfData_eq]

/-- `FAIL` in `IDLE` is terminal entry with its cause (R128). -/
theorem failCommand_of_idle {s : State causeW} (h : s.phase = .idle) (cause : Cause causeW) :
    failCommand cause s = { terminate .sourceReadFailure s with failCause := cause } := by
  simp only [failCommand, h, raise]

/-- Outside `IDLE` every command but RESET changes nothing (R129, log entry 8). -/
theorem apply_of_not_idle {c : Command causeW} {s : State causeW} (hc : c ≠ .reset) (h : s.phase ≠ .idle) :
    c.apply s = s := by
  cases c with
  | reset => exact absurd rfl hc
  | chunk bytes =>
    simp only [Command.apply, chunkCommand]
    split
    · contradiction
    · rfl
    · rfl
  | eos =>
    simp only [Command.apply, eosCommand]
    split
    · contradiction
    · rfl
    · rfl
  | fail cause =>
    simp only [Command.apply, failCommand]
    split
    · contradiction
    · rfl
    · rfl
  | rsvd3 => rfl

/-- Outside `IDLE` a command sequence without RESET changes nothing. -/
theorem runCommands_of_not_idle {cs : List (Command causeW)} {s : State causeW} (hcs : Command.reset ∉ cs)
    (h : s.phase ≠ .idle) : runCommands cs s = s := by
  induction cs with
  | nil => rfl
  | cons c cs ih =>
    obtain ⟨hc, hrest⟩ := List.ne_and_not_mem_of_not_mem_cons hcs
    rw [runCommands, apply_of_not_idle hc.symm h, ih hrest]

/-! ### The command rows
Each is its command at `CAUSE_W = 8` (R74, R136). -/

theorem exec_data (byte : Byte) (s : State) : exec (.data byte) s = .next ((Command.chunk [byte]).apply s) := rfl
theorem exec_eos (ign : Byte) (s : State) : exec (.eos ign) s = .next (Command.eos.apply s) := rfl
theorem exec_fail (cause : Byte) (s : State) : exec (.fail cause) s = .next ((Command.fail cause).apply s) := rfl

/-- Outside `IDLE` the rows of the commands that act there change nothing (R129, log entry 8). -/
theorem exec_of_not_idle {s : State} (h : s.phase ≠ .idle) :
    (∀ byte, exec (.data byte) s = .next s) ∧ (∀ ign, exec (.eos ign) s = .next s) ∧
      ∀ cause, exec (.fail cause) s = .next s := by
  refine ⟨fun byte => ?_, fun ign => ?_, fun cause => ?_⟩
  · rw [exec_data, apply_of_not_idle (c := .chunk [byte]) nofun h]
  · rw [exec_eos, apply_of_not_idle (c := .eos) nofun h]
  · rw [exec_fail, apply_of_not_idle (c := .fail cause) nofun h]

/-- The port is ready exactly outside a CHUNK (R137). -/
theorem inReady_iff (s : State causeW) : s.inReady = true ↔ s.phase ≠ .scanning := by
  rw [State.inReady, bne_iff_ne]

/-- Settles O35: in `DONE` all but RESET change nothing, one command after the other. -/
theorem doneIgnoresCommands : Obligations.DoneIgnoresCommands := by
  refine ⟨fun s h => exec_of_not_idle (by simp [h]), fun s h => ⟨?_, fun cs hcs => ?_⟩⟩
  · exact (inReady_iff s).mpr (by simp [h])
  · exact runCommands_of_not_idle hcs (by simp [h])

/-- Settles O36. -/
theorem noBeatWhileScanning : Obligations.NoBeatWhileScanning := by
  intro s h
  refine ⟨?_, exec_of_not_idle (by simp [h])⟩
  rw [Bool.eq_false_iff, Ne, inReady_iff, not_not, h]

/-- Settles O30: the flag after one byte is set, whatever it was. -/
theorem dataIsAOneByteChunk : Obligations.DataIsAOneByteChunk := by
  refine ⟨fun bytes s h => chunkCommand_of_idle h bytes, fun byte s h => ?_⟩
  have hflag : nonEmptyAfter s.nonEmpty [byte] = true := by simp [nonEmptyAfter]
  rw [exec_data_of_idle h, scanChunk, append, hflag]

/-- The three outcomes of the end-of-data marker, each as its own terminal entry (R126). -/
theorem eosCommand_outcomes {s : State causeW} (h : s.phase = .idle) :
    (s.nonEmpty = false → eosCommand s = terminate .emptyInput s) ∧
    (s.nonEmpty = true → s.frameCount = 0 → eosCommand s = terminate .noFramesFound s) ∧
    (s.nonEmpty = true → s.frameCount ≠ 0 → eosCommand s = terminate .ok s) := by
  rw [eosCommand_of_idle h]
  refine ⟨fun hne => ?_, fun hne hcount => ?_, fun hne hcount => ?_⟩
  · simp [eosResult, hne]
  · simp [eosResult, hne, hcount]
  · simp [eosResult, hne, hcount]

/-- Settles O32: the row is the command. -/
theorem eosEndsTheScan : Obligations.EosEndsTheScan := by
  refine ⟨fun s h => eosCommand_outcomes h, fun ign s h => ?_⟩
  obtain ⟨hempty, hnone, hok⟩ := eosCommand_outcomes h
  exact ⟨fun hne => congrArg _ (hempty hne), fun hne hcount => congrArg _ (hnone hne hcount),
    fun hne hcount => congrArg _ (hok hne hcount)⟩

/-- Settles O33: the row is the command. -/
theorem failEndsTheScan : Obligations.FailEndsTheScan :=
  ⟨fun cause _ h => failCommand_of_idle h cause, fun cause _ h => congrArg _ (failCommand_of_idle h cause)⟩

/-- Settles O34. -/
theorem reservedKindHasNoEffect : Obligations.ReservedKindHasNoEffect := fun _ _ => rfl

/-- Settles O39, row by row of R141. -/
theorem phaseTransitions : Obligations.PhaseTransitions := by
  intro causeW s hinv
  refine ⟨⟨rfl, rfl⟩, fun h => ?_, fun h c hc => ?_, fun ⟨hne, hcount⟩ => ?_⟩
  · have hopen : s.result = .none := hinv.result_none (by simp [h])
    obtain ⟨hempty, hnone, hok⟩ := eosCommand_outcomes h
    refine ⟨fun bytes => ?_, ?_, fun hne => ?_, fun hne hcount => ?_, fun hne hcount => ?_, fun cause => ?_, h, hopen⟩
    · obtain ⟨hphase, hresult, -⟩ := scanChunk_frame bytes s
      simp only [Command.apply, chunkCommand_of_idle h, hphase, hresult, h, hopen, and_self]
    · rw [Command.apply, eosCommand_of_idle h, terminate_phase]
    · rw [Command.apply, hempty hne, terminate_result]
    · rw [Command.apply, hnone hne hcount, terminate_result]
    · rw [Command.apply, hok hne (Nat.ne_of_gt hcount), terminate_result]
    · rw [Command.apply, failCommand_of_idle h]
      exact ⟨rfl, rfl⟩
  · rw [apply_of_not_idle hc (by simp [h])]
    exact ⟨h, rfl⟩
  · have := (hinv.empty hne).2.1
    omega

/-! ### The output -/

/-- The inversion of the output function (R130): what is delivered says the phase, the result and its data. -/
theorem output_cases (s : State causeW) :
    (s.output = none ∧ (s.phase ≠ .done ∨ s.result = .none)) ∨
    (s.phase = .done ∧ s.result = .ok ∧ s.output = some (.count s.frameCount)) ∨
    (s.phase = .done ∧ s.result = .emptyInput ∧ s.output = some .emptyInput) ∨
    (s.phase = .done ∧ s.result = .noFramesFound ∧ s.output = some .noFramesFound) ∨
    (s.phase = .done ∧ s.result = .sourceReadFailure ∧ s.output = some (.sourceReadFailure s.failCause)) := by
  unfold State.output
  split <;> simp [*]

/-- Settles O40: an output says `DONE`, and the invariant says that a success has counted. -/
theorem outputOnlyAtTheEnd : Obligations.OutputOnlyAtTheEnd := by
  intro causeW s hinv
  obtain ⟨e, hopen⟩ | ⟨hphase, hresult, e⟩ | ⟨hphase, -, e⟩ | ⟨hphase, -, e⟩ | ⟨hphase, -, e⟩ := output_cases s
  · have hnot : s.phase ≠ .done := fun hd => hopen.elim (· hd) (hinv.done_iff.mp hd)
    simp [e, hnot]
  · have hcount := hinv.ok_count hresult
    refine ⟨by simp [e, hphase], fun n hn => ?_, by simp [e]⟩
    rw [e] at hn
    cases hn
    exact ⟨rfl, hcount⟩
  · simp [e, hphase]
  · simp [e, hphase]
  · simp [e, hphase, eq_comm]

/-- What `EOS` in `IDLE` delivers (R126, R130). -/
theorem eosCommand_output_of_idle {s : State causeW} (h : s.phase = .idle) :
    (eosCommand s).output = some
      (if s.nonEmpty = false then .emptyInput else if s.frameCount = 0 then .noFramesFound else .count s.frameCount) := by
  obtain ⟨hempty, hnone, hok⟩ := eosCommand_outcomes h
  split_ifs with hne hcount
  · rw [hempty hne]
    rfl
  · rw [hnone (by simpa using hne) hcount]
    rfl
  · rw [hok (by simpa using hne) hcount]
    rfl

/-! ### The two drivers -/

/-- A scan of chunks is a scan of their bytes, whatever command ends it (R116, R132). -/
theorem runCommands_reset_chunks (chunks : List (List Byte)) (last : Command causeW) (s : State causeW) :
    runCommands (.reset :: (chunks.map .chunk ++ [last])) s = last.apply (chunkCommand chunks.flatten (restart s)) := by
  rw [runCommands, runCommands_append, Command.apply, runCommands_chunks chunks (inv_restart s)]
  rfl

/-- After RESET a CHUNK leaves the machine in `IDLE`. -/
theorem chunkCommand_restart_phase (bytes : List Byte) (s : State causeW) :
    (chunkCommand bytes (restart s)).phase = .idle := by
  rw [chunkCommand_of_idle rfl]
  exact (scanChunk_frame bytes (restart s)).1

/-- Settles O54: both drivers end the scan of the same bytes, in the same state. -/
theorem streamEqualsWhole : Obligations.StreamEqualsWhole := by
  refine fun chunks s => ⟨congrArg State.output (runCommands_reset_chunks chunks .eos s), fun cause => ?_⟩
  rw [streamFail, runCommands_reset_chunks, Command.apply, failCommand_of_idle (chunkCommand_restart_phase ..)]
  rfl

/-- Settles O37: a scan of empty chunks is the scan of no byte. -/
theorem zeroLengthChunkHasNoEffect : Obligations.ZeroLengthChunkHasNoEffect := by
  refine ⟨fun s h => chunkCommand_nil h, rfl, fun k s => ?_⟩
  have hscan := runCommands_reset_chunks (List.replicate k []) .eos s
  rw [List.map_replicate, List.flatten_replicate_nil, chunkCommand_nil (inv_restart s)] at hscan
  rw [hscan]
  rfl

/-- What a scan step does is said by the bytes and the cursor alone (R46, R106). -/
theorem scanStep_congr {s t : State causeW} (hp : s.pending = t.pending) (hc : s.cursor = t.cursor) :
    (scanStep s).1 = (scanStep t).1 ∧ (scanStep s).2.cursor = (scanStep t).2.cursor := by
  by_cases hshort : t.pending.length < t.cursor + 4
  · rw [scanStep_of_short hshort, scanStep_of_short (by rwa [hp, hc])]
    exact ⟨rfl, hc⟩
  · obtain ⟨hdr, hread⟩ := (memRead4_isSome_iff t.pending t.cursor).mpr (Nat.not_lt.mp hshort)
    rw [scanStep_of_read hread, scanStep_of_read (by rwa [hp, hc])]
    cases classify hdr with
    | nosync => simp [headerStep, hc]
    | reject => simp [headerStep, hc]
    | valid len =>
      simp only [headerStep, hp, hc]
      split <;> simp [hc]

/-- How many frames the loop accepts is said by the bytes and the cursor alone. -/
theorem acceptCount_congr {s t : State causeW} (hp : s.pending = t.pending) (hc : s.cursor = t.cursor) :
    acceptCount s = acceptCount t := by
  refine scanLoop_induction (P := fun s => ∀ t : State causeW, s.pending = t.pending → s.cursor = t.cursor →
    acceptCount s = acceptCount t) ?_ ?_ s t hp hc
  · intro s hh t hp hc
    obtain ⟨hout, -⟩ := scanStep_congr hp hc
    rw [acceptCount_unroll s, acceptCount_unroll t, ← hout, if_pos hh, if_pos hh]
  · intro s hh ih t hp hc
    obtain ⟨hout, hcursor⟩ := scanStep_congr hp hc
    have hrest := ih (scanStep t).2 (by rw [(scanStep_frame s).1, (scanStep_frame t).1, hp]) hcursor
    rw [acceptCount_unroll s, acceptCount_unroll t, ← hout, hrest]

/-- A CHUNK counts the frames its loop accepts (R22, R111). -/
theorem scanChunk_frameCount (bytes : List Byte) (s : State causeW) :
    (scanChunk bytes s).frameCount = s.frameCount + acceptCount (append bytes s) := by
  rw [scanChunk, compact_frameCount, scanLoop_frameCount, append_frameCount]

/-- Settles O55: the scan starts from RESET, whose count is 0 and whose flag is low. -/
theorem wholeBufferOutput : Obligations.WholeBufferOutput := by
  intro causeW buffer s
  have hrun : runCommands (whole buffer) s = eosCommand (scanChunk buffer (restart s)) := rfl
  obtain ⟨hphase, -, -, -, -, hflag, -⟩ := scanChunk_frame buffer (restart s)
  have hempty : nonEmptyAfter (restart s).nonEmpty buffer = false ↔ buffer.length = 0 := by
    rw [nonEmptyAfter_eq_false, restart_nonEmpty, List.length_eq_zero_iff, eq_self, true_and]
  have haccepts : acceptCount (append buffer (restart s)) = acceptCount (append buffer (State.resetAt causeW)) :=
    acceptCount_congr rfl rfl
  rw [hrun, eosCommand_output_of_idle hphase, hflag, scanChunk_frameCount, restart_frameCount, Nat.zero_add, haccepts]
  simp only [hempty]

end Sys2Proof.Machine
end

section
/-! SUPPORT. The port's own statements (R134 to R136, R161, R170): what the oldest input makes a step do, and that a host
that holds its beats is never refused. -/

namespace Sys2Proof.Machine

/-! ### The oldest input -/

/-- A sample holds what is to be held: nothing, or the beat that it presents again (R135). -/
theorem keepsBeat_edge_iff (presented : Option Beat) (p : PortIn) :
    keepsBeat presented (.edge p) = true ↔
      ∀ b, presented = some b → p.inValid = true ∧ p.inKind = b.kind ∧ p.inData = b.data := by
  cases presented with
  | none => simp
  | some b => simp [keepsBeat_some_edge]

/-- A transaction-level CHUNK holds no beat (log entry 27). -/
theorem keepsBeat_chunk_iff (presented : Option Beat) (bytes : List Byte) :
    keepsBeat presented (.chunk bytes) = true ↔ presented = none := by
  cases presented <;> simp [keepsBeat]

/-- With no input the machine waits (R161, log entry 14). -/
theorem takeInput_of_nil {s : State} (hi : s.inputs = []) : takeInput s = .next s := by
  simp [takeInput, hi]

/-- An input that holds what is to be held is taken. -/
theorem takeInput_of_keeps {s : State} {x : Input} {rest : List Input} (hi : s.inputs = x :: rest)
    (hk : keepsBeat s.presented x = true) : takeInput s = inputStep x { s with inputs := rest } := by
  simp [takeInput, hi, hk]

/-- An input that does not is refused (R170, log entry 26). -/
theorem takeInput_of_not_keeps {s : State} {x : Input} {rest : List Input} (hi : s.inputs = x :: rest)
    (hk : ¬keepsBeat s.presented x = true) : takeInput s = .refused .beatNotHeld := by
  simp [takeInput, hi, hk]

/-- An edge with `rst = 1` is RESET, and the beat presented on it is to be held (R134, R135). -/
theorem portEdge_of_rst {p : PortIn} (h : p.rst = true) (s : State) :
    portEdge p s = exec .reset { s with presented := p.presents } := by
  rw [portEdge, if_pos h, presentedAfter, if_pos h]

/-- An edge with `rst = 0` leaves nothing to be held; with `in_valid = 1` its beat happens (R135, R136). -/
theorem portEdge_of_not_rst {p : PortIn} (h : p.rst = false) (s : State) :
    portEdge p s = if p.inValid then exec (decodeBeat p.inKind p.inData) { s with presented := none }
      else .next { s with presented := none } := by
  simp [portEdge, presentedAfter, h]

/-- Settles O44, by `rst` and `in_valid`. -/
theorem stepTakesThePortSample : Obligations.StepTakesThePortSample := by
  intro s p rest hi hphase
  rw [step_of_not_scanning hphase]
  refine ⟨fun hheld => ?_, fun b hb hnot => ?_⟩
  · rw [takeInput_of_keeps hi ((keepsBeat_edge_iff s.presented p).mpr hheld), inputStep]
    refine ⟨fun hrst hvalid => ?_, fun hrst hvalid => ?_, fun hrst hvalid => ⟨_, rfl, ?_⟩, fun hrst hvalid => ?_⟩
    · simp [portEdge_of_rst hrst, PortIn.presents, hvalid]
    · simp [portEdge_of_rst hrst, PortIn.presents, hvalid]
    · simp [portEdge_of_not_rst hrst, hvalid]
    · simp [portEdge_of_not_rst hrst, hvalid]
  · exact takeInput_of_not_keeps hi fun hk => hnot ((keepsBeat_edge_iff s.presented p).mp hk b hb)

/-- Settles O45: with `rst = 1` at the head, a step takes the sample in every phase. -/
theorem resetPinActsInEveryPhase : Obligations.ResetPinActsInEveryPhase := by
  intro s p rest hi hrst hheld
  have hhead : rstAsserted s = true := by rw [rstAsserted, hi]; exact hrst
  rw [step_of_rst hhead, takeInput_of_keeps hi ((keepsBeat_edge_iff s.presented p).mpr hheld), inputStep,
    portEdge_of_rst hrst]
  rfl

/-- Settles O46: a CHUNK is taken exactly where no beat is to be held. -/
theorem stepWaitsAndOpensChunks : Obligations.StepWaitsAndOpensChunks := by
  intro s hphase
  rw [step_of_not_scanning hphase]
  refine ⟨takeInput_of_nil, fun bytes rest hi => ⟨fun hp hidle => ?_, fun hp hdone => ?_, fun hp => ?_⟩⟩
  · rw [takeInput_of_cons hi hp]
    simp only [inputEffect, openChunk, hidle]
    rfl
  · rw [takeInput_of_cons hi hp]
    simp only [inputEffect, openChunk, hdone]
  · exact takeInput_of_not_keeps hi (mt (keepsBeat_chunk_iff s.presented bytes).mp hp)

/-! ### A host that holds its beats -/

/-- A sample that is taken leaves the other inputs, and its beat to be held where `rst = 1` (R135). -/
theorem inputEffect_edge_host_side (p : PortIn) (s : State) :
    (inputEffect (.edge p) s).inputs = s.inputs ∧ (inputEffect (.edge p) s).presented = presentedAfter p :=
  edgeEffect_host_side p { s with presented := presentedAfter p }

/-- Opening a CHUNK does not change the host's side. -/
theorem openChunk_host_side (bytes : List Byte) (s : State) :
    (openChunk bytes s).inputs = s.inputs ∧ (openChunk bytes s).presented = s.presented := by
  unfold openChunk
  split <;> exact ⟨rfl, rfl⟩

/-- In a list of inputs that keeps the protocol the oldest holds what is to be held, and once it has taken effect the
rest keeps the protocol (R135, R170). -/
theorem keepsProtocol_cons {s : State} {x : Input} {rest : List Input} (h : keepsProtocol s.presented (x :: rest) = true) :
    keepsBeat s.presented x = true ∧
      keepsProtocol (inputEffect x { s with inputs := rest }).presented rest = true ∧
      (inputEffect x { s with inputs := rest }).inputs = rest := by
  cases x with
  | edge p =>
    obtain ⟨hkeeps, hrest⟩ := Bool.and_eq_true_iff.mp h
    obtain ⟨hin, hpres⟩ := inputEffect_edge_host_side p { s with inputs := rest }
    exact ⟨hkeeps, by rwa [hpres], hin⟩
  | chunk bytes =>
    obtain ⟨hkeeps, hrest⟩ := Bool.and_eq_true_iff.mp h
    obtain ⟨hin, hpres⟩ := openChunk_host_side bytes { s with inputs := rest }
    have hnone := (keepsBeat_chunk_iff s.presented bytes).mp hkeeps
    exact ⟨hkeeps, by rwa [inputEffect, hpres, hnone], hin⟩

/-- An iteration of the scan loop does not change the host's side. -/
theorem scanIteration_host_side (s : State) :
    ∃ t, scanIteration s = .next t ∧ t.inputs = s.inputs ∧ t.presented = s.presented := by
  obtain ⟨-, -, -, -, -, -, hin, hpres⟩ := scanStep_frame s
  refine ⟨_, scanIteration_eq s, ?_⟩
  split
  · exact ⟨rfl, rfl⟩
  · exact ⟨hin, hpres⟩

/-- Settles O48, by the two things a step can be. -/
theorem heldBeatsAreNeverRefused : Obligations.HeldBeatsAreNeverRefused := by
  intro s h
  obtain e | ⟨-, e⟩ := step_cases s <;> rw [e]
  · match hi : s.inputs with
    | [] => exact ⟨s, takeInput_of_nil hi, h⟩
    | x :: rest =>
      rw [hi] at h
      obtain ⟨hkeeps, hrest, hin⟩ := keepsProtocol_cons h
      exact ⟨_, (takeInput_of_keeps hi hkeeps).trans (inputStep_eq ..), by rwa [hin]⟩
  · obtain ⟨t, ht, hin, hpres⟩ := scanIteration_host_side s
    exact ⟨t, ht, by rwa [hin, hpres]⟩

end Sys2Proof.Machine
end

section
/-! SUPPORT. Terminal entry (R152): the update that every end of a scan shares, and what each kind of failure adds to it. -/

namespace Sys2Proof.Machine

variable {causeW : Nat}

/-- The update that a success and the three failures share (R152). -/
theorem terminate_eq (r : Result) (s : State causeW) :
    terminate r s =
      { s with result := r, consumed := s.consumed + s.pending.length, pending := [], phase := .done } := rfl

/-- A failure without a cause is terminal entry alone. -/
theorem raise_emptyInput (s : State causeW) : raise .emptyInput s = terminate .emptyInput s := rfl
theorem raise_noFramesFound (s : State causeW) : raise .noFramesFound s = terminate .noFramesFound s := rfl

/-- A read failure also records its cause. -/
theorem raise_sourceReadFailure (cause : Cause causeW) (s : State causeW) :
    raise (.sourceReadFailure cause) s = { terminate .sourceReadFailure s with failCause := cause } := rfl

/-- Settles O38: each kind is the shared update, and only a read failure adds to it. -/
theorem raiseDoesExactlyThis : Obligations.RaiseDoesExactlyThis := by
  intro causeW s
  refine ⟨?_, ?_, fun cause => ?_, terminate_eq .ok s⟩
  · rw [raise_emptyInput, terminate_eq]
  · rw [raise_noFramesFound, terminate_eq]
  · rw [raise_sourceReadFailure, terminate_eq]

end Sys2Proof.Machine
end

section
/-! SUPPORT. The window-and-skip machine of R179 beside the normative one (R180): each `DATA` byte keeps what the window
machine holds in account with `pending`, so each command keeps the correspondence. -/

namespace Sys2Proof.Machine

variable {causeW : Nat}

/-! ### What the window machine holds -/

/-- With nothing to skip the window is `pending` (R180, case (a) of R113). -/
theorem Window.holds_of_skip_zero {w : Window causeW} (h : w.skip = 0) (pending : List Byte) :
    w.holds pending ↔ pending = w.win ∧ w.win.length ≤ 3 := by
  rw [holds, if_pos h, fill]

/-- While it skips, `pending` is a frame's header and all but the last `skip` of its bytes (R180, case (b) of R113). -/
theorem Window.holds_of_skip_pos {w : Window causeW} (h : 0 < w.skip) (pending : List Byte) :
    w.holds pending ↔ w.win = [] ∧ ∃ hdr len, memRead4 pending 0 = some hdr ∧ classify hdr = .valid len ∧
      w.skip < len ∧ pending.length = len - w.skip := by
  rw [holds, if_neg h.ne']

/-! ### A byte into the window machine -/

/-- Fewer than four bytes decide nothing (R179). -/
theorem Window.pushByte_of_short {d : Byte} {w : Window causeW} (h : memRead4 (w.win ++ [d]) 0 = none) :
    w.pushByte d = { w with win := w.win ++ [d] } := by
  simp only [pushByte, h]

/-- A header that is not valid moves the window on by one byte (R179). -/
theorem Window.pushByte_of_not_valid {d : Byte} {w : Window causeW} {hdr : Hdr}
    (hread : memRead4 (w.win ++ [d]) 0 = some hdr) (hclass : ∀ len, classify hdr ≠ .valid len) :
    w.pushByte d = { w with win := (w.win ++ [d]).drop 1 } := by
  simp only [pushByte, hread]
  split
  · rfl
  · rfl
  · rename_i len hvalid
    exact absurd hvalid (hclass len)

/-- A valid header is given up for the count of its frame's further bytes (R179). -/
theorem Window.pushByte_of_valid {d : Byte} {w : Window causeW} {hdr : Hdr} {len : Nat}
    (hread : memRead4 (w.win ++ [d]) 0 = some hdr) (hclass : classify hdr = .valid len) :
    w.pushByte d = { w with win := [], skip := len - 4 } := by
  simp only [pushByte, hread, hclass]

/-- What a byte into the window leaves alone. -/
theorem Window.pushByte_frame (d : Byte) (w : Window causeW) :
    (w.pushByte d).nonEmpty = w.nonEmpty ∧ (w.pushByte d).phase = w.phase ∧ (w.pushByte d).result = w.result ∧
      (w.pushByte d).failCause = w.failCause ∧ (w.pushByte d).frameCount = w.frameCount := by
  match hread : memRead4 (w.win ++ [d]) 0 with
  | none => simp [pushByte_of_short hread]
  | some hdr =>
    match hclass : classify hdr with
    | .nosync => simp [pushByte_of_not_valid hread (by simp [hclass])]
    | .reject => simp [pushByte_of_not_valid hread (by simp [hclass])]
    | .valid len => simp [pushByte_of_valid hread hclass]

/-- The last byte of a frame counts it (R179). -/
theorem Window.skipByte_of_last {w : Window causeW} (h : w.skip - 1 = 0) :
    w.skipByte = { w with skip := 0, frameCount := w.frameCount + 1 } := by
  rw [skipByte, if_pos h, h]

/-- Another byte of a frame leaves one less to skip (R179). -/
theorem Window.skipByte_of_not_last {w : Window causeW} (h : w.skip - 1 ≠ 0) :
    w.skipByte = { w with skip := w.skip - 1 } := by
  rw [skipByte, if_neg h]

theorem Window.byte_of_skip_pos {w : Window causeW} (h : 0 < w.skip) (d : Byte) :
    w.byte d = { w with nonEmpty := true }.skipByte := if_pos h

theorem Window.byte_of_skip_zero {w : Window causeW} (h : w.skip = 0) (d : Byte) :
    w.byte d = { w with nonEmpty := true }.pushByte d := if_neg h.not_gt

/-- A `DATA` byte sets the flag and leaves the phase, the result and the cause alone. -/
theorem Window.byte_frame (d : Byte) (w : Window causeW) :
    (w.byte d).nonEmpty = true ∧ (w.byte d).phase = w.phase ∧ (w.byte d).result = w.result ∧
      (w.byte d).failCause = w.failCause := by
  obtain hskip | hskip := Nat.eq_zero_or_pos w.skip
  · obtain ⟨hne, hphase, hresult, hcause, -⟩ := pushByte_frame d { w with nonEmpty := true }
    rw [byte_of_skip_zero hskip]
    exact ⟨hne, hphase, hresult, hcause⟩
  · rw [byte_of_skip_pos hskip]
    exact ⟨rfl, rfl, rfl, rfl⟩

/-! ### The same byte in the normative machine -/

/-- A CHUNK that leaves the bytes settled is its append alone: the loop halts at once (R113). -/
theorem scanChunk_of_settled {chunk : List Byte} {s : State causeW} (hcursor : s.cursor = 0)
    (h : Settled (s.pending ++ chunk)) : scanChunk chunk s = append chunk s := by
  have hhalts : (scanStep (append chunk s)).1.halts = true := halts_of_settled hcursor h
  rw [scanChunk, scanLoop_of_halts hhalts]
  exact compact_of_cursor_zero hcursor

/-- Four bytes that are no valid header lose their first (R101, R102). -/
theorem scanChunk_of_not_valid {chunk : List Byte} {s : State causeW} {hdr : Hdr} (hcursor : s.cursor = 0)
    (hlength : (s.pending ++ chunk).length = 4) (hread : memRead4 (s.pending ++ chunk) 0 = some hdr)
    (hclass : ∀ len, classify hdr ≠ .valid len) :
    (scanChunk chunk s).pending = (s.pending ++ chunk).drop 1 ∧ (scanChunk chunk s).frameCount = s.frameCount := by
  have hclear : NoValidBefore 1 (s.pending ++ chunk) := by
    intro p h hp hread' len
    obtain rfl : p = 0 := Nat.lt_one_iff.mp hp
    obtain rfl : hdr = h := Option.some.inj (hread.symm.trans hread')
    exact hclass len
  obtain ⟨o, ho, hstep⟩ := scanStep_of_noValidBefore (s := append chunk s) hclear (by simp [hcursor])
    (by simpa [hcursor] using hlength.ge)
  have hcontinues : (scanStep (append chunk s)).1.halts = false := by
    obtain rfl | rfl := ho <;> rw [hstep] <;> rfl
  have hexhaust : (scanStep { append chunk s with cursor := s.cursor + 1 }).1.halts = true := by
    rw [scanStep_of_short (by simpa [hcursor] using hlength.trans_lt (by decide))]
    rfl
  have hloop : scanLoop (append chunk s) = { append chunk s with cursor := s.cursor + 1 } := by
    rw [scanLoop_of_continues hcontinues, hstep]
    exact scanLoop_of_halts hexhaust
  rw [scanChunk, hloop, hcursor]
  exact ⟨rfl, rfl⟩

/-- The last bytes of a frame count it, and nothing is left (R103). -/
theorem scanChunk_of_lastBytes {chunk : List Byte} {s : State causeW} {hdr : Hdr} (hcursor : s.cursor = 0)
    (hread : memRead4 (s.pending ++ chunk) 0 = some hdr) (hclass : classify hdr = .valid (s.pending ++ chunk).length) :
    (scanChunk chunk s).pending = [] ∧ (scanChunk chunk s).frameCount = s.frameCount + 1 := by
  obtain ⟨-, hloop⟩ := scan_lastFrame (s := append chunk s) (by rwa [append_cursor, hcursor]) hclass
    (by rw [append_cursor, hcursor, Nat.zero_add, append_pending])
  rw [scanChunk, hloop]
  simp [hcursor]

/-! ### The correspondence, byte by byte -/

/-- A byte of a frame that is still arriving: both machines count the frame at its last byte (R180). -/
theorem Window.holds_skipByte {w : Window causeW} {s : State causeW} (hcursor : s.cursor = 0) (hskip : 0 < w.skip)
    (hholds : w.holds s.pending) (hcount : w.frameCount = s.frameCount) (d : Byte) :
    w.skipByte.holds (scanChunk [d] s).pending ∧ w.skipByte.frameCount = (scanChunk [d] s).frameCount := by
  obtain ⟨hwin, hdr, len, hread, hclass, hlt, hlength⟩ := (holds_of_skip_pos hskip _).mp hholds
  have hread' : memRead4 (s.pending ++ [d]) 0 = some hdr := memRead4_append [d] hread
  have hlength' : (s.pending ++ [d]).length = len - (w.skip - 1) := by
    rw [List.length_append, hlength, List.length_singleton]
    omega
  by_cases hlast : w.skip - 1 = 0
  · rw [hlast, Nat.sub_zero] at hlength'
    obtain ⟨hpending, hframes⟩ := scanChunk_of_lastBytes hcursor hread' (by rw [hclass, hlength'])
    rw [skipByte_of_last hlast, hpending, hframes, hcount]
    exact ⟨(holds_of_skip_zero rfl _).mpr ⟨hwin.symm, by simp [hwin]⟩, rfl⟩
  · have hsuspended : SuspendedOn (s.pending ++ [d]) := ⟨hdr, len, hread', hclass, by omega⟩
    rw [scanChunk_of_settled hcursor (.inr hsuspended), skipByte_of_not_last hlast]
    exact ⟨(holds_of_skip_pos (Nat.pos_of_ne_zero hlast) _).mpr
      ⟨hwin, hdr, len, hread', hclass, (Nat.sub_le _ _).trans_lt hlt, hlength'⟩, hcount⟩

/-- A byte into the window: it is kept, moves the window on, or completes a header whose frame is then
skipped (R180). -/
theorem Window.holds_pushByte {w : Window causeW} {s : State causeW} (hcursor : s.cursor = 0) (hskip : w.skip = 0)
    (hholds : w.holds s.pending) (d : Byte) :
    (w.pushByte d).holds (scanChunk [d] s).pending ∧ (scanChunk [d] s).frameCount = s.frameCount := by
  obtain ⟨hwin, hfill⟩ := (holds_of_skip_zero hskip _).mp hholds
  have hlength : (w.win ++ [d]).length = w.win.length + 1 := List.length_append
  match hread : memRead4 (w.win ++ [d]) 0 with
  | none =>
    have hshort : (w.win ++ [d]).length < 4 := by
      by_contra hfour
      obtain ⟨hdr, hsome⟩ := (memRead4_isSome_iff (w.win ++ [d]) 0).mpr (by omega)
      exact Option.some_ne_none hdr (hsome.symm.trans hread)
    rw [scanChunk_of_settled hcursor (.inl (hwin ▸ hshort)), pushByte_of_short hread, append_pending, hwin]
    have hthree : (w.win ++ [d]).length ≤ 3 := Nat.le_of_lt_succ hshort
    exact ⟨(holds_of_skip_zero (w := { w with win := w.win ++ [d] }) hskip _).mpr ⟨rfl, hthree⟩, rfl⟩
  | some hdr =>
    have hfour : (w.win ++ [d]).length = 4 := by
      have hle := (memRead4_isSome_iff (w.win ++ [d]) 0).mp ⟨hdr, hread⟩
      omega
    by_cases hvalid : ∃ len, classify hdr = .valid len
    · obtain ⟨len, hclass⟩ := hvalid
      have hmin := (classify_valid_length hclass).1
      have hsuspended : SuspendedOn (w.win ++ [d]) := ⟨hdr, len, hread, hclass, by omega⟩
      rw [scanChunk_of_settled hcursor (.inr (hwin ▸ hsuspended)), pushByte_of_valid hread hclass, append_pending, hwin]
      have hpos : 0 < len - 4 := by omega
      have hlt : len - 4 < len := by omega
      have hheld : (w.win ++ [d]).length = len - (len - 4) := by omega
      exact ⟨(holds_of_skip_pos hpos _).mpr ⟨rfl, hdr, len, hread, hclass, hlt, hheld⟩, rfl⟩
    · have hclass := not_exists.mp hvalid
      obtain ⟨hpending, hframes⟩ := scanChunk_of_not_valid hcursor (hwin ▸ hfour) (hwin ▸ hread) hclass
      have hthree : ((w.win ++ [d]).drop 1).length ≤ 3 := by rw [List.length_drop, hfour]
      rw [pushByte_of_not_valid hread hclass, hpending, hwin]
      exact ⟨(holds_of_skip_zero (w := { w with win := (w.win ++ [d]).drop 1 }) hskip _).mpr ⟨rfl, hthree⟩,
        hframes⟩

/-- A `DATA` byte in `IDLE` keeps what is held in account with `pending`, and the counts equal. -/
theorem Window.holds_byte {w : Window causeW} {s : State causeW} (hcursor : s.cursor = 0) (hholds : w.holds s.pending)
    (hcount : w.frameCount = s.frameCount) (d : Byte) :
    (w.byte d).holds (scanChunk [d] s).pending ∧ (w.byte d).frameCount = (scanChunk [d] s).frameCount := by
  obtain hskip | hskip := Nat.eq_zero_or_pos w.skip
  · obtain ⟨hheld, hframes⟩ := holds_pushByte (w := { w with nonEmpty := true }) hcursor hskip hholds d
    obtain ⟨-, -, -, -, hsame⟩ := pushByte_frame d { w with nonEmpty := true }
    rw [byte_of_skip_zero hskip]
    exact ⟨hheld, hsame.trans (hcount.trans hframes.symm)⟩
  · rw [byte_of_skip_pos hskip]
    exact holds_skipByte (w := { w with nonEmpty := true }) hcursor hskip hholds hcount d

/-- A `DATA` byte in `IDLE` keeps the correspondence. -/
theorem Window.Corresponds.byte {w : Window causeW} {s : State causeW} (h : w.Corresponds s) (hinv : s.Inv)
    (hidle : s.phase = .idle) (d : Byte) : (w.byte d).Corresponds (chunkCommand [d] s) := by
  obtain ⟨hholds, -, hcount, -, hphase, hresult, hcause⟩ := h
  have hcursor : s.cursor = 0 := hinv.cursor_zero (by simp [hidle])
  obtain ⟨hphase', hresult', hcause', -, -, hne', -⟩ := scanChunk_frame [d] s
  obtain ⟨hne'', hphase'', hresult'', hcause''⟩ := byte_frame d w
  obtain ⟨hholds', hcount'⟩ := holds_byte hcursor (hholds hidle) hcount d
  rw [chunkCommand_of_idle hidle]
  refine ⟨fun _ => hholds', fun hdone => ?_, hcount', ?_, ?_, ?_, ?_⟩
  · rw [hphase', hidle] at hdone
    cases hdone
  · rw [hne'', hne']
    simp [nonEmptyAfter]
  · rw [hphase'', hphase', hphase]
  · rw [hresult'', hresult', hresult]
  · rw [hcause'', hcause', hcause]

/-- So do the bytes of a CHUNK, which the normative machine may take one at a time (R116). -/
theorem Window.Corresponds.foldl_byte {w : Window causeW} {s : State causeW} (h : w.Corresponds s) (hinv : s.Inv)
    (hidle : s.phase = .idle) (ds : List Byte) :
    (ds.foldl (fun v d => v.byte d) w).Corresponds (chunkCommand ds s) := by
  induction ds generalizing w s with
  | nil => rwa [chunkCommand_nil hinv]
  | cons d ds ih =>
    have hidle' : (chunkCommand [d] s).phase = .idle := by
      rw [chunkCommand_of_idle hidle, (scanChunk_frame [d] s).1, hidle]
    rw [← List.singleton_append, chunkCommand_append [d] ds hinv.cursor_le]
    exact ih (h.byte hinv hidle d) (hinv.apply (.chunk [d])) hidle'

/-! ### The correspondence, command by command -/

/-- Outside `IDLE` the window machine ignores every command but RESET (R129). -/
theorem Window.apply_of_not_idle {c : Command causeW} {w : Window causeW} (hc : c ≠ .reset) (h : w.phase ≠ .idle) :
    w.apply c = w := by
  cases c with
  | reset => exact absurd rfl hc
  | chunk ds => simp only [apply, bytes]; split <;> trivial
  | eos => simp only [apply]; split <;> trivial
  | fail cause => simp only [apply]; split <;> trivial
  | rsvd3 => rfl

/-- RESET holds nothing in either machine. -/
theorem Window.corresponds_restart (s : State causeW) : Window.reset.Corresponds (restart s) :=
  ⟨fun _ => (holds_of_skip_zero rfl _).mpr ⟨rfl, Nat.zero_le 3⟩, nofun, rfl, rfl, rfl, rfl, rfl⟩

/-- The end of a scan discards in both machines what they held (R179). -/
theorem Window.Corresponds.terminate {w : Window causeW} {s : State causeW} (h : w.Corresponds s) (r : Result) :
    (w.terminate r).Corresponds (Machine.terminate r s) := by
  obtain ⟨-, -, hcount, hne, -, -, hcause⟩ := h
  exact ⟨nofun, fun _ => ⟨rfl, rfl, rfl⟩, hcount, hne, rfl, rfl, hcause⟩

/-- The same cause recorded in both machines keeps the correspondence. -/
theorem Window.Corresponds.with_failCause {w : Window causeW} {s : State causeW} (h : w.Corresponds s)
    (cause : Cause causeW) : Window.Corresponds { w with failCause := cause } { s with failCause := cause } := by
  obtain ⟨hidle, hdone, hcount, hne, hphase, hresult, -⟩ := h
  exact ⟨hidle, hdone, hcount, hne, hphase, hresult, rfl⟩

/-- Every command keeps the correspondence. -/
theorem Window.Corresponds.apply {w : Window causeW} {s : State causeW} (h : w.Corresponds s) (hinv : s.Inv)
    (c : Command causeW) : (w.apply c).Corresponds (c.apply s) := by
  have ⟨_, _, hcount, hne, hphase, _, _⟩ := h
  by_cases hreset : c = .reset
  · subst hreset
    exact corresponds_restart s
  by_cases hidle : s.phase = .idle
  · have hidle' : w.phase = .idle := hphase.trans hidle
    cases c with
    | reset => exact absurd rfl hreset
    | chunk ds =>
      simp only [Window.apply, bytes, hidle']
      exact h.foldl_byte hinv hidle ds
    | eos =>
      simp only [Window.apply, hidle', Command.apply, eosCommand_of_idle hidle, hcount, hne]
      exact h.terminate _
    | fail cause =>
      simp only [Window.apply, hidle', Command.apply, failCommand_of_idle hidle]
      exact (h.terminate .sourceReadFailure).with_failCause cause
    | rsvd3 => exact h
  · rwa [apply_of_not_idle hreset (hphase ▸ hidle), Machine.apply_of_not_idle hreset hidle]

/-- So does every command sequence. -/
theorem Window.Corresponds.run (cs : List (Command causeW)) {w : Window causeW} {s : State causeW}
    (h : w.Corresponds s) (hinv : s.Inv) : (Window.run cs w).Corresponds (runCommands cs s) := by
  induction cs generalizing w s with
  | nil => exact h
  | cons c cs ih => exact ih (h.apply hinv c) (hinv.apply c)

/-- Settles O60: both machines start with nothing held, and every command keeps the correspondence. -/
theorem windowMachineCorresponds : Obligations.WindowMachineCorresponds :=
  fun cs => (Window.corresponds_restart (State.resetAt _)).run cs (inv_resetAt _)

end Sys2Proof.Machine
end
